-- ==== Sys2Proof/Word.lean ====
section
/-! DEFINITION. The index and word types the whole model shares (00_scope.md section 3, Geometry). -/

namespace Sys2Proof

/-- One byte of a line, of a frame or of a reply. -/
abbrev Byte := BitVec 8

/-- The tag of a host request, 0 to 15 (R138). -/
abbrev Tag := Fin 16

/-- A die position, 0 to 3 (00_scope.md section 3). -/
abbrev DieIx := Fin 4

/-- A line buffer index, 0 to 11 (R1). -/
abbrev BufIx := Fin 12

/-- A block number within its die, 0 to 255. -/
abbrev BlockIx := Fin 256

/-- A line number within its block, 0 to 2047. -/
abbrev LineIx := Fin 2048

/-- A global block number, 0 to 1023. -/
abbrev GlobalBlock := Fin 1024

/-- A ticket number, 0 to 255; adding 1 wraps from 255 to 0 (R160). -/
abbrev Ticket := Fin 256

/-- The 64 bytes of one line. -/
abbrev LineImage := Vector Byte 64

/-- A set of byte positions 0 to 63 of a line: position `p` is a member when entry `p` is true (R1). -/
abbrev ByteSet := Vector Bool 64

/-- The word mask of PROGRAM_LINE: word `w` is programmed when entry `w` is true (R17). -/
abbrev WordMask := Vector Bool 16

end Sys2Proof
end

