-- ==== Sys2Proof/Syntax.lean ====
section
/-! DEFINITION. The commands of the block: one constructor of `Instr` for each row of spec/opcode_table.json,
with that row's operands, and the commands of the management port as the port holds one in execution. -/

namespace Sys2Proof

/-- One beat of a host write (R138, section 11.6): bit `i` of `enables` enables byte `i` of the beat, and byte
`i` of `data` is byte `i` of the beat. -/
structure Beat where
  enables : BitVec 8
  data : Vector Byte 8
deriving DecidableEq, Repr

/-- The four operation limits whose running out is OPERATION_LIMIT_EXPIRY (R85, R86). The RESET_DIE limit has a
row of its own. -/
inductive LimitKind where
  | read | program | erase | halt
deriving DecidableEq, Repr

/-- A command of the management port with the values of its argument field (section 11.1), as wide as the field
gives them: a value out of range is representable, and it is the command's own check that refuses it (R184).
`malformed` is a malformed command frame, known by its first byte (R183). -/
inductive MgmtCommand where
  | status
  | configure (coalesce hold guard : BitVec 16) (holdOff budget enables : Byte)
  | configRead
  | regionWrite (index valid : Byte) (first last : BitVec 16) (mode erasePermitted posting : Byte)
  | regionRead (index : Byte)
  | lock (first last : BitVec 16) (lockState : Byte)
  | ceiling (die : Byte) (value : BitVec 16)
  | blockQuery (block : BitVec 16)
  | bufferQuery (index : Byte)
  | dieQuery (die : Byte)
  | erase (block : BitVec 16)
  | flush (scope : Byte)
  | dieRestart (die : Byte)
  | faultRead
  | faultClear
  | completionRead
  | channelReset
  | malformed (firstByte : Byte)
deriving DecidableEq, Repr

/-- The commands, one constructor per row of spec/opcode_table.json. Pins, bus transactions, array-link messages,
timer expiries and frames come from outside or from the part's own timebase; the rows STATUS to CHANNEL_RESET
and MALFORMED_FRAME are the completions of management commands (R152). -/
inductive Instr where
  /-- POWER_ON: power is applied with the DCOUNT strap, the PROTN level (true: asserted, low) and the RSTN level
  (true: low) as given. -/
  | powerOn (dcount : BitVec 2) (protnLow rstnLow : Bool)
  /-- LINE_RESET: RSTN goes low. -/
  | lineReset
  /-- RSTN_RELEASE: RSTN returns high, with the DCOUNT strap as given. -/
  | rstnRelease (dcount : BitVec 2)
  /-- PROTN_ASSERTION: PROTN goes low. -/
  | protnAssertion
  /-- PROTN_RELEASE: PROTN goes high. -/
  | protnRelease
  /-- HOST_WRITE: the host presents a write on HREQ. -/
  | hostWrite (tag : Tag) (address : BitVec 27) (beats : List Beat)
  /-- HOST_READ: the host presents a read of `beats` beats on HREQ. -/
  | hostRead (tag : Tag) (address : BitVec 27) (beats : Nat)
  /-- RESPONSE_DELIVERY: the head of the response list is delivered on HRSP. -/
  | responseDelivery
  /-- HOLD_TIMER_EXPIRY: the hold timer of the request with this tag runs out. -/
  | holdTimerExpiry (tag : Tag)
  /-- COALESCE_TIMER_EXPIRY: the coalesce timer of this buffer runs out. -/
  | coalesceTimerExpiry (buffer : BufIx)
  /-- LINE_DATA: the die sends the 64 bytes of a line. -/
  | lineData (die : DieIx) (data : LineImage)
  /-- PROGRAM_END_PASS: the die sends PROGRAM_END with PASS. -/
  | programEndPass (die : DieIx)
  /-- PROGRAM_END_FAIL: the die sends PROGRAM_END with FAIL. -/
  | programEndFail (die : DieIx)
  /-- ERASE_END_PASS: the die sends ERASE_END with PASS. -/
  | eraseEndPass (die : DieIx)
  /-- ERASE_END_FAIL: the die sends ERASE_END with FAIL. -/
  | eraseEndFail (die : DieIx)
  /-- HALTED: the die sends HALTED. -/
  | halted (die : DieIx)
  /-- RESET_END: the die sends RESET_END. -/
  | resetEnd (die : DieIx)
  /-- RESET_LIMIT_EXPIRY: the 200 µs reset limit of the die runs out. -/
  | resetLimitExpiry (die : DieIx)
  /-- OPERATION_LIMIT_EXPIRY: the READ_LINE, PROGRAM_LINE, ERASE_BLOCK or HALT limit of the die runs out. -/
  | operationLimitExpiry (die : DieIx) (kind : LimitKind)
  /-- GUARD_EXPIRY: the guard timer of the die runs out. -/
  | guardExpiry (die : DieIx)
  /-- HOLD_OFF_EXPIRY: the hold-off timer of the die runs out. -/
  | holdOffExpiry (die : DieIx)
  /-- COMMAND_FRAME: a frame of these complete bytes ends; `partialByte` says that its last byte was incomplete. -/
  | commandFrame (bytes : List Byte) (partialByte : Bool)
  /-- REPLY_FRAME: a reply frame of `length` complete bytes. -/
  | replyFrame (length : Nat)
  /-- MALFORMED_FRAME: a malformed frame with this first byte completes. -/
  | malformedFrame (firstByte : Byte)
  | status
  | configure (coalesce hold guard : BitVec 16) (holdOff budget enables : Byte)
  | configRead
  | regionWrite (index valid : Byte) (first last : BitVec 16) (mode erasePermitted posting : Byte)
  | regionRead (index : Byte)
  | lock (first last : BitVec 16) (lockState : Byte)
  | ceiling (die : Byte) (value : BitVec 16)
  | blockQuery (block : BitVec 16)
  | bufferQuery (index : Byte)
  | dieQuery (die : Byte)
  | erase (block : BitVec 16)
  | flush (scope : Byte)
  | dieRestart (die : Byte)
  | faultRead
  | faultClear
  | completionRead
  | channelReset
deriving DecidableEq, Repr

end Sys2Proof
end

