-- ==== Sys2Proof/Decode.lean ====
section
/-! DEFINITION. The opcode table gives no row any bits, so `decodeTableWord` reads none. What this block does
decode is the command frame of its management port (section 11.1): `parseFrame`, with `encodeFrame` beside it. -/

namespace Sys2Proof

/-- The command a word spells by the opcode table's bits: the table gives no row any bits, so none. -/
def decodeTableWord (_nbits _w : Nat) : Option Instr := none

/-- A 16-bit field from its two bytes, most significant byte first (chapter 11). -/
def word16 (hi lo : Byte) : BitVec 16 := hi ++ lo

/-- The most significant byte of a 16-bit field. -/
def hiByte (w : BitVec 16) : Byte := w.extractLsb' 8 8

/-- The least significant byte of a 16-bit field. -/
def loByte (w : BitVec 16) : Byte := w.extractLsb' 0 8

/-- The command of a frame whose argument field has the length of its command byte (section 11.1), and none
where the command byte names no command or the length is another (R183). -/
def parseArgs (commandByte : Byte) (args : List Byte) : Option MgmtCommand :=
  match commandByte.toNat, args with
  | 0x01, [] => some .status
  | 0x02, [c1, c0, h1, h0, g1, g0, o, b, e] =>
    some (.configure (word16 c1 c0) (word16 h1 h0) (word16 g1 g0) o b e)
  | 0x03, [] => some .configRead
  | 0x04, [i, v, f1, f0, l1, l0, m, e, p] => some (.regionWrite i v (word16 f1 f0) (word16 l1 l0) m e p)
  | 0x05, [i] => some (.regionRead i)
  | 0x06, [f1, f0, l1, l0, k] => some (.lock (word16 f1 f0) (word16 l1 l0) k)
  | 0x07, [d, v1, v0] => some (.ceiling d (word16 v1 v0))
  | 0x08, [b1, b0] => some (.blockQuery (word16 b1 b0))
  | 0x09, [i] => some (.bufferQuery i)
  | 0x0A, [d] => some (.dieQuery d)
  | 0x10, [b1, b0] => some (.erase (word16 b1 b0))
  | 0x11, [c] => some (.flush c)
  | 0x12, [d] => some (.dieRestart d)
  | 0x18, [] => some .faultRead
  | 0x19, [] => some .faultClear
  | 0x1A, [] => some .completionRead
  | 0x3C, [] => some .channelReset
  | _, _ => none

/-- The command that a command frame puts into execution: the one its bytes spell, or a malformed frame known by
its first byte (R151, R183). A frame whose last byte is incomplete is malformed. -/
def parseFrame (commandByte : Byte) (args : List Byte) (partialByte : Bool) : MgmtCommand :=
  if partialByte then .malformed commandByte
  else (parseArgs commandByte args).getD (.malformed commandByte)

/-- The command byte a reply to the command carries (section 11.1, R183). -/
def MgmtCommand.commandByte : MgmtCommand → Byte
  | .status => 0x01
  | .configure _ _ _ _ _ _ => 0x02
  | .configRead => 0x03
  | .regionWrite _ _ _ _ _ _ _ => 0x04
  | .regionRead _ => 0x05
  | .lock _ _ _ => 0x06
  | .ceiling _ _ => 0x07
  | .blockQuery _ => 0x08
  | .bufferQuery _ => 0x09
  | .dieQuery _ => 0x0A
  | .erase _ => 0x10
  | .flush _ => 0x11
  | .dieRestart _ => 0x12
  | .faultRead => 0x18
  | .faultClear => 0x19
  | .completionRead => 0x1A
  | .channelReset => 0x3C
  | .malformed b => b

/-- The argument field of a command (section 11.1, section 11.5). -/
def MgmtCommand.arguments : MgmtCommand → List Byte
  | .configure c h g o b e => [hiByte c, loByte c, hiByte h, loByte h, hiByte g, loByte g, o, b, e]
  | .regionWrite i v f l m e p => [i, v, hiByte f, loByte f, hiByte l, loByte l, m, e, p]
  | .regionRead i => [i]
  | .lock f l k => [hiByte f, loByte f, hiByte l, loByte l, k]
  | .ceiling d v => [d, hiByte v, loByte v]
  | .blockQuery b => [hiByte b, loByte b]
  | .bufferQuery i => [i]
  | .dieQuery d => [d]
  | .erase b => [hiByte b, loByte b]
  | .flush c => [c]
  | .dieRestart d => [d]
  | .status => []
  | .configRead => []
  | .faultRead => []
  | .faultClear => []
  | .completionRead => []
  | .channelReset => []
  | .malformed _ => []

/-- The command frame of a command, written from section 11.1. -/
def encodeFrame (c : MgmtCommand) : List Byte := c.commandByte :: c.arguments

/-- The row of the opcode table that is the completion of a management command (R152). -/
def MgmtCommand.completion : MgmtCommand → Instr
  | .status => .status
  | .configure c h g o b e => .configure c h g o b e
  | .configRead => .configRead
  | .regionWrite i v f l m e p => .regionWrite i v f l m e p
  | .regionRead i => .regionRead i
  | .lock f l k => .lock f l k
  | .ceiling d v => .ceiling d v
  | .blockQuery b => .blockQuery b
  | .bufferQuery i => .bufferQuery i
  | .dieQuery d => .dieQuery d
  | .erase b => .erase b
  | .flush c => .flush c
  | .dieRestart d => .dieRestart d
  | .faultRead => .faultRead
  | .faultClear => .faultClear
  | .completionRead => .completionRead
  | .channelReset => .channelReset
  | .malformed b => .malformedFrame b

end Sys2Proof
end

