-- ==== Sys2Proof/Config.lean ====
section
/-! DEFINITION. The fixed numbers of the part: geometry, operation limits and the settings after reset. The
spec leaves no value of this block open, so there is no free value here (NOTES.md, Assumptions). -/

namespace Sys2Proof.Config

/-- Bytes of one die, 32 MiB (00_scope.md section 3; R71). -/
def dieBytes : Nat := 33554432

/-- Bytes of one block, 128 KiB. -/
def blockBytes : Nat := 131072

/-- Bytes of one line. -/
def lineBytes : Nat := 64

/-- Blocks of one die. -/
def blocksPerDie : Nat := 256

/-- The READ_LINE limit in µs (R85). -/
def readLimit : Nat := 8

/-- The PROGRAM_LINE limit in µs of running time (R85). -/
def programLimit : Nat := 3000

/-- The ERASE_BLOCK limit in µs of running time (R85). -/
def eraseLimit : Nat := 4000000

/-- The HALT limit in µs (R85). -/
def haltLimit : Nat := 60

/-- The RESET_DIE limit in µs (R73, R85). -/
def resetLimit : Nat := 200

/-- The most records the fault log stores (R168). -/
def faultLogRoom : Nat := 16

/-- The bound on outstanding requests plus undelivered responses (R139). -/
def portRoom : Nat := 16

/-- The bound on outstanding tickets plus completion records (R161). -/
def ticketRoom : Nat := 8

/-- The bound in µs on the time from the end of a command frame to its completion (R152). -/
def commandBound : Nat := 5

/-- Largest coalesce window in µs (R159). -/
def coalesceMax : Nat := 4095

/-- Largest guard interval in µs (R91). -/
def guardMax : Nat := 1023

/-- Largest interleave budget (R91). -/
def budgetMax : Nat := 15

end Sys2Proof.Config
end

