-- ==== Sys2Proof/Machine/State.lean ====
section
/-! DEFINITION. Everything the part holds, as plain data: the records of the chapters, the state of the machine,
the reasons a command can stop, and the state right after reset. -/

namespace Sys2Proof.Machine

open Sys2Proof

/-! ## Lines and host requests -/

/-- A line of the array: its die, its block within the die and its line within the block (R1). -/
structure LineAddr where
  die : DieIx
  block : BlockIx
  line : LineIx
deriving DecidableEq, Repr

/-- What a request asks for: a number of beats to read, or the beats to write (R138). -/
inductive Payload where
  | read (beats : Nat)
  | write (beats : List Beat)
deriving DecidableEq, Repr

/-- The admitted mode of a write: the write mode of its region at step 5 of admission (R41). -/
inductive AdmittedMode where
  | combine | appendOnce
deriving DecidableEq, Repr

/-- An entry of the table of outstanding requests (R141). `holdDue` is the point at which the hold timer runs
out, absent when no hold timer runs (R144). `order` is the request's number in the order of acceptance: it is greater
than that of every request that was outstanding at its acceptance (R138, R143; log entry 31). The place of R142 is not
stored: the list that holds the tag says it. -/
structure Request where
  payload : Payload
  line : LineAddr
  position : Fin 64
  holdDue : Option Nat
  mode : Option AdmittedMode
  mark : Bool
  order : Nat
deriving DecidableEq, Repr

/-- The details of a refused write (R147). -/
inductive RefusedDetail where
  | noRegion | readOnly | locked | conflict | writtenOnce
deriving DecidableEq, Repr

/-- The details of a faulted request (R147). -/
inductive FaultDetail where
  | address | align | dieOffline | blockFailed | duplicateTag
deriving DecidableEq, Repr

/-- The code of a response with its detail (R147). -/
inductive RespCode where
  | ok
  | refused (detail : RefusedDetail)
  | fault (detail : FaultDetail)
  | timeout
  | aborted
deriving DecidableEq, Repr

/-- A response: `data` is present with OK to a READ (R147). -/
structure Response where
  tag : Tag
  code : RespCode
  data : Option (List Byte)
deriving DecidableEq, Repr

/-! ## Regions -/

/-- The write mode of a region (R29). -/
inductive WriteMode where
  | readOnly | combine | appendOnce
deriving DecidableEq, Repr

/-- The posting policy of a region (R29). -/
inductive Posting where
  | window | atOnce
deriving DecidableEq, Repr

/-- A region table entry (R29). -/
structure RegionEntry where
  valid : Bool
  first : GlobalBlock
  last : GlobalBlock
  mode : WriteMode
  erasePermitted : Bool
  posting : Posting
deriving DecidableEq, Repr

/-! ## Line buffers -/

/-- The base image, the image and the written set of a buffer that has a base (R1). -/
structure LineBody where
  base : LineImage
  image : LineImage
  written : ByteSet
deriving DecidableEq, Repr

/-- A line buffer record: a field is present in exactly the states R1's table gives. The attempt is 0 in every
state before PROGRAMMING and the written set is empty in LOADING, so neither is stored there. `coalesceDue` is
the point at which the coalesce timer runs out, absent when it is stopped. -/
inductive Buffer where
  | free
  | loading (line : LineAddr) (openNumber : Nat) (held : List Tag)
  | filling (line : LineAddr) (openNumber : Nat) (body : LineBody) (predecessor : Option BufIx)
      (coalesceDue : Option Nat)
  | posted (line : LineAddr) (openNumber : Nat) (body : LineBody) (predecessor : Option BufIx)
  | programming (line : LineAddr) (openNumber : Nat) (body : LineBody) (attempt : Fin 2)
deriving DecidableEq, Repr

/-- The scope of a flush: every die, or one die (R27). -/
inductive FlushScope where
  | all
  | die (d : DieIx)
deriving DecidableEq, Repr

/-- A flush tracking record (R27). -/
structure FlushRecord where
  ticket : Ticket
  scope : FlushScope
  members : List BufIx
deriving DecidableEq, Repr

/-! ## Blocks -/

/-- The lock of a block (R125). -/
inductive Lock where
  | shut | opened
deriving DecidableEq, Repr

/-- The health of a block (R172). -/
inductive Health where
  | healthy | failed
deriving DecidableEq, Repr

/-- The erase state of a block (R110). -/
inductive EraseState where
  | none | pending | erasing
deriving DecidableEq, Repr

/-- A block record: lock (R125), health (R172), erase state, clean flag and hold list (R110). -/
structure BlockRecord where
  lock : Lock
  health : Health
  erase : EraseState
  clean : Bool
  holdList : List Tag
deriving DecidableEq, Repr

/-! ## Die controllers -/

/-- An entry of a die read queue (R74). The tag of a host read is absent once its request has been answered
while its READ_LINE was outstanding (R75). -/
inductive ReadEntry where
  | hostRead (block : BlockIx) (line : LineIx) (tag : Option Tag)
  | baseLoad (block : BlockIx) (line : LineIx) (buffer : BufIx)
deriving DecidableEq, Repr

/-- An entry of a work queue (R77). -/
inductive WorkEntry where
  | program (buffer : BufIx)
  | erase (block : BlockIx) (ticket : Ticket)
deriving DecidableEq, Repr

/-- A program on its die: the line of its PROGRAM_LINE and its buffer. -/
structure ProgramOp where
  block : BlockIx
  line : LineIx
  buffer : BufIx
deriving DecidableEq, Repr

/-- An erase on its die: the block of its ERASE_BLOCK and the ticket of its command. -/
structure EraseOp where
  block : BlockIx
  ticket : Ticket
deriving DecidableEq, Repr

/-- A long array operation. -/
inductive ArrayOp where
  | program (p : ProgramOp)
  | erase (e : EraseOp)
deriving DecidableEq, Repr

/-- An entry of a halt context: the halted operation and its remaining budget in µs (R78, R96). -/
structure ContextEntry where
  op : ArrayOp
  budget : Nat
deriving DecidableEq, Repr

/-- A die's state with what is outstanding in it and the timers that run in it (R70, R85, R92, R98). A `due` is
the point at which a timer runs out. In PROGRAMMING and ERASING `guard` is the guard timer, absent once the guard
has passed. In HALTED `holdOff` is the hold-off timer, absent only inside the happening that will start it or
take the decision. In STARTING `resetDue` is absent while RSTN is low. In OFFLINE `restart` is the ticket and the
reset limit of a restart in progress (R89). `absent` is a position beyond the fitted dies: it has no die
controller and no die state, and STATUS reports it ABSENT (R71, R157). -/
inductive DieState where
  | absent
  | starting (resetDue : Option Nat)
  | ready
  | reading (entry : ReadEntry) (due : Nat)
  | programming (op : ProgramOp) (due : Nat) (guard : Option Nat)
  | erasing (op : EraseOp) (due : Nat) (guard : Option Nat)
  | halting (op : ArrayOp) (due : Nat) (haltDue : Nat)
  | halted (holdOff : Option Nat)
  | offline (restart : Option (Ticket × Nat))
deriving DecidableEq, Repr

/-- A die controller. `readQueue` holds the entries not yet sent; the outstanding one stands in the die state.
`context` is bottom first (R78). -/
structure Die where
  state : DieState
  readQueue : List ReadEntry
  workQueue : List WorkEntry
  context : List ContextEntry
  interleave : Nat
deriving DecidableEq, Repr

/-- A message from the part to a die (R68); `resume` is CONTINUE. -/
inductive DieMessage where
  | readLine (block : BlockIx) (line : LineIx)
  | programLine (block : BlockIx) (line : LineIx) (image : LineImage) (mask : WordMask)
  | eraseBlock (block : BlockIx)
  | halt
  | resume
  | resetDie
deriving DecidableEq, Repr

/-! ## Management port -/

/-- The configuration settings (R159). -/
structure Settings where
  coalesceWindow : Nat
  holdLimit : Nat
  guardInterval : Nat
  holdOff : Nat
  interleaveBudget : Nat
  faultInterrupt : Bool
  completionInterrupt : Bool
deriving DecidableEq, Repr

/-- The reasons of a refused command (R155); `ceilingProtected` is PROTECTED. -/
inductive Reason where
  | badCommand | badArgument | pinned | ceilingProtected | eraseNotPermitted | blockShut | alreadyPending
  | dieOffline | dieNotOffline | listFull | overlap | starting | resetting
deriving DecidableEq, Repr

/-- The status of a reply, with its reason where it is REFUSED (R155). -/
inductive ReplyStatus where
  | done
  | accepted
  | notReady
  | refused (reason : Reason)
deriving DecidableEq, Repr

/-- The stored reply (R152, R153); `fields` are its reply fields in the layout of section 11.3. -/
structure Reply where
  commandByte : Byte
  status : ReplyStatus
  dropped : Bool
  fields : List Byte
deriving DecidableEq, Repr

/-- The command in execution, and the point by which it completes (R152). -/
structure Executing where
  command : MgmtCommand
  due : Nat
deriving DecidableEq, Repr

/-- The kind of a ticketed command (R163). -/
inductive TicketKind where
  | erase | flush | dieRestart
deriving DecidableEq, Repr

/-- The outcome of a ticketed command (R163). -/
inductive TicketOutcome where
  | done | failed | cancelled
deriving DecidableEq, Repr

/-- A completion record (R163): `scope` is the die, or ALL for a flush of every die. -/
structure Completion where
  ticket : Ticket
  kind : TicketKind
  outcome : TicketOutcome
  scope : FlushScope
  block : Option GlobalBlock
deriving DecidableEq, Repr

/-! ## Fault log -/

/-- The cause of a lost line (R169). -/
inductive LossCause where
  | programFail | blockFailed | dieOffline
deriving DecidableEq, Repr

/-- The operation kind of a die timeout (R86). -/
inductive TimeoutKind where
  | read | program | erase | halt | reset
deriving DecidableEq, Repr

/-- What a fault record reports: each kind with the fields R169 gives it, so that presence needs no flag. -/
inductive FaultBody where
  | programRetried (line : LineAddr)
  | lineLost (cause : LossCause) (line : LineAddr) (lostBytes : Nat)
  | eraseFail (die : DieIx) (block : BlockIx)
  | dieTimeout (operation : TimeoutKind) (die : DieIx) (block : Option BlockIx) (line : Option LineIx)
  | resetDiscard (lostBytes linesDiscarded requestsAborted erasesCancelled : Nat)
deriving DecidableEq, Repr

/-- A stored fault record with its sequence number (R168, R170). -/
structure FaultRecord where
  sequence : BitVec 16
  body : FaultBody
deriving DecidableEq, Repr

/-! ## The whole part -/

/-- The mode STATUS reports (R157). -/
inductive PartMode where
  | running | starting | resetting
deriving DecidableEq, Repr

/-- A request as HREQ carries it (section 11.6): `kind` is 0 for READ and 1 for WRITE, `beats` is the number of beats
minus 1, and `lanes` are the byte enables and the data of a WRITE, one entry for each beat. -/
structure HostRequestSignals where
  kind : BitVec 1
  tag : BitVec 4
  address : BitVec 27
  beats : BitVec 3
  lanes : List Beat
deriving DecidableEq, Repr

/-- A response as HRSP carries it (section 11.6): the tag, the code and the detail value, and the bytes of read data,
of which there are none but with OK to a READ. -/
structure HostResponseSignals where
  tag : BitVec 4
  code : BitVec 3
  detail : BitVec 3
  data : List Byte
deriving DecidableEq, Repr

/-- What the part drove on its output buses in its most recent happening: the array-link messages in the order
sent, the response delivered on HRSP, and the bytes of MDO during a reply frame. HRDY and IRQN are levels that
follow from the rest of the state (`State.hrdy`, `State.irqnAsserted`). -/
structure Outputs where
  link : List (DieIx × DieMessage)
  hrsp : Option HostResponseSignals
  mdo : List Byte
deriving DecidableEq, Repr

/-- The state of the IHA420, and the queue of the commands that wait for it. -/
structure State where
  /-- The 1 µs timebase: ticks since power-on (the model's own count of 00_scope.md section 5, Time). -/
  now : Nat
  /-- The part mode (R157). -/
  mode : PartMode
  /-- The level of RSTN: true while it is low. -/
  rstnLow : Bool
  /-- The sampled DCOUNT strap: fitted dies minus one (R71). -/
  dcount : BitVec 2
  /-- The level of the PROTN pin: true while it is low. -/
  protnPin : Bool
  /-- The recorded PROTN level: true while it is asserted (R127). -/
  protn : Bool
  /-- The configuration settings (R159). -/
  settings : Settings
  /-- The table of outstanding requests, one entry for each tag (R141). -/
  table : Vector (Option Request) 16
  /-- The response list, oldest first (R148). -/
  responses : List Response
  /-- The region table (R29). -/
  regions : Vector RegionEntry 8
  /-- The line buffer records (R1). -/
  buffers : Vector Buffer 12
  /-- The open counter (R2). -/
  openCounter : Nat
  /-- The buffer wait list, in arrival order (R23). -/
  waitList : List Tag
  /-- The flush tracking records, in order of admission (R27). -/
  flushes : List FlushRecord
  /-- The block table (R110, R125, R172). -/
  blocks : Vector BlockRecord 1024
  /-- The die controllers, one for each die position (R70). -/
  dies : Vector Die 4
  /-- The pin ceilings (R126). -/
  ceilings : Vector (Fin 257) 4
  /-- The stored reply of the management port (R152). -/
  reply : Reply
  /-- The command in execution (R152). -/
  executing : Option Executing
  /-- The ticket counter (R160). -/
  ticketCounter : Ticket
  /-- The completion list, oldest first (R163). -/
  completions : List Completion
  /-- The fault log, oldest first (R168). -/
  faultLog : List FaultRecord
  /-- The overflow mark of the fault log (R171). -/
  overflow : Bool
  /-- The sequence counter of the fault log (R170). -/
  sequence : BitVec 16
  /-- The outputs of the most recent happening. -/
  out : Outputs
  /-- The commands that are waiting, first in, first out. -/
  pending : List Instr
deriving DecidableEq, Repr

/-- The reasons a command stops the machine. The spec describes no happening that stops this block, so no
command raises a fault. -/
inductive Fault where
  /-- Raised by no command; the type of faults is not empty only so that it can be named. Safe: no outcome
  of any command carries it. -/
  | neverRaised
deriving DecidableEq, Repr

/-- The reasons a command has no meaning. -/
inductive Refusal where
  /-- A command that has no meaning yet. Safe: nothing is said of it. -/
  | notModelled (mnemonic : String)
  /-- Raised by HOST_WRITE and HOST_READ with a number of beats outside 1 to 8, which the 3-bit beats field of HREQ
  cannot carry (R138, section 11.6). Safe: no host can present such a request. -/
  | illFormedRequest
deriving DecidableEq, Repr

/-! ## After reset -/

/-- The settings after power-on and line reset (R159). -/
def Settings.initial : Settings :=
  ⟨256, 20000, 100, 10, 2, false, false⟩

/-- A region entry after power-on and line reset (R30). -/
def RegionEntry.initial : RegionEntry := ⟨false, 0, 0, .readOnly, false, .window⟩

/-- A block record after power-on and line reset (R110, R136, R172). -/
def BlockRecord.initial : BlockRecord := ⟨.shut, .healthy, .none, false, []⟩

/-- A die controller in the given state with nothing queued (R72). -/
def Die.empty (state : DieState) : Die := ⟨state, [], [], [], 0⟩

/-- The stored reply of no command (R152). -/
def Reply.initial : Reply := ⟨0x00, .refused .badCommand, false, []⟩

/-- Nothing driven. -/
def Outputs.none : Outputs := ⟨[], Option.none, []⟩

/-- The part right after power-on with four dies fitted, PROTN released and RSTN high: every field at its
power-on value, and start-up begun, each die having been sent RESET_DIE at time 0 with its 200 µs reset limit
running (R72, R73, R180). The pin levels are the model's choice (notes/assumptions/1.md). -/
def State.reset : State where
  now := 0
  mode := .starting
  rstnLow := false
  dcount := 3
  protnPin := false
  protn := false
  settings := Settings.initial
  table := Vector.replicate 16 Option.none
  responses := []
  regions := Vector.replicate 8 RegionEntry.initial
  buffers := Vector.replicate 12 .free
  openCounter := 0
  waitList := []
  flushes := []
  blocks := Vector.replicate 1024 BlockRecord.initial
  dies := Vector.replicate 4 (Die.empty (.starting (some Config.resetLimit)))
  ceilings := Vector.replicate 4 0
  reply := Reply.initial
  executing := Option.none
  ticketCounter := 0
  completions := []
  faultLog := []
  overflow := false
  sequence := 0
  out := ⟨[(0, .resetDie), (1, .resetDie), (2, .resetDie), (3, .resetDie)], Option.none, []⟩
  pending := []

end Sys2Proof.Machine
end

