-- ==== Sys2Proof/Machine/Ops.lean ====
section
/-! DEFINITION. The named operations over the state's records: reading and writing one buffer, block, die or
request, giving a response, sending a message, writing a fault record, recording a completion, giving a ticket. -/

namespace Sys2Proof.Machine

open Sys2Proof

/-! ## Indices in increasing order -/

/-- The die positions. -/
def dieIndices : List DieIx := [0, 1, 2, 3]

/-- The buffer indices. -/
def bufferIndices : List BufIx := [0, 1, 2, 3, 4, 5, 6, 7, 8, 9, 10, 11]

/-- The tags. -/
def tagIndices : List Tag := [0, 1, 2, 3, 4, 5, 6, 7, 8, 9, 10, 11, 12, 13, 14, 15]

/-- The numbers of the list's places from `i` on, with each entry rewritten by `f`. -/
def mapFrom {α : Type} (f : Nat → α → α) : Nat → List α → List α
  | _, [] => []
  | i, x :: xs => f i x :: mapFrom f (i + 1) xs

theorem mapFrom_length {α : Type} (f : Nat → α → α) (i : Nat) (l : List α) :
    (mapFrom f i l).length = l.length := by
  induction l generalizing i <;> simp [mapFrom, *]

/-- Every entry of a vector rewritten by a function of its index and its value. -/
def mapIndexed {α : Type} {n : Nat} (f : Nat → α → α) (v : Vector α n) : Vector α n :=
  ⟨⟨mapFrom f 0 v.toList⟩, by simp [mapFrom_length]⟩

/-! ## Reading and writing one record -/

/-- Buffer `i`. -/
def State.buffer (s : State) (i : BufIx) : Buffer := s.buffers[i]

/-- The state with buffer `i` replaced. -/
def State.setBuffer (s : State) (i : BufIx) (b : Buffer) : State := { s with buffers := s.buffers.set i b }

/-- The record of global block `g`. -/
def State.block (s : State) (g : GlobalBlock) : BlockRecord := s.blocks[g]

/-- The state with the record of global block `g` replaced. -/
def State.setBlock (s : State) (g : GlobalBlock) (r : BlockRecord) : State := { s with blocks := s.blocks.set g r }

/-- The state with the record of global block `g` rewritten. -/
def State.modifyBlock (s : State) (g : GlobalBlock) (f : BlockRecord → BlockRecord) : State :=
  s.setBlock g (f (s.block g))

/-- The state with every block record rewritten by a function of its global number. -/
def State.mapBlocks (s : State) (f : Nat → BlockRecord → BlockRecord) : State :=
  { s with blocks := mapIndexed f s.blocks }

/-- The die controller of position `d`. -/
def State.die (s : State) (d : DieIx) : Die := s.dies[d]

/-- The state with the die controller of position `d` replaced. -/
def State.setDie (s : State) (d : DieIx) (x : Die) : State := { s with dies := s.dies.set d x }

/-- The state with the die controller of position `d` rewritten. -/
def State.modifyDie (s : State) (d : DieIx) (f : Die → Die) : State := s.setDie d (f (s.die d))

/-- The die controller with its state replaced. -/
def Die.withState (x : Die) (st : DieState) : Die := { x with state := st }

/-- The die controller with an entry added at the tail of its read queue. -/
def Die.joinReads (x : Die) (e : ReadEntry) : Die := { x with readQueue := x.readQueue ++ [e] }

/-- The entry of tag `t` in the table of outstanding requests. -/
def State.request (s : State) (t : Tag) : Option Request := s.table[t]

/-- The state with the entry of tag `t` replaced. -/
def State.setRequest (s : State) (t : Tag) (r : Option Request) : State := { s with table := s.table.set t r }

/-- The global number of a block within its die (00_scope.md section 3). -/
def globalBlock (d : DieIx) (b : BlockIx) : GlobalBlock := ⟨d.val * 256 + b.val, by omega⟩

/-- The global block of a line. -/
def LineAddr.global (l : LineAddr) : GlobalBlock := globalBlock l.die l.block

/-- The die of a global block. -/
def dieOf (g : GlobalBlock) : DieIx := ⟨g.val / 256, by omega⟩

/-- The block within its die of a global block. -/
def blockOf (g : GlobalBlock) : BlockIx := ⟨g.val % 256, by omega⟩

/-! ## Time and outputs -/

/-- The state as a happening begins: nothing has been driven in it yet. -/
def State.quiet (s : State) : State := { s with out := Outputs.none }

/-- The state with the timebase at the point `due`, where it has not passed that point already. -/
def State.reach (s : State) (due : Nat) : State := { s with now := max s.now due }

/-- The die controller sends a message on its array link. -/
def State.send (s : State) (d : DieIx) (m : DieMessage) : State :=
  { s with out := { s.out with link := s.out.link ++ [(d, m)] } }

/-! ## Responses -/

/-- A response joins the tail of the response list (R148). -/
def State.respond (s : State) (r : Response) : State := { s with responses := s.responses ++ [r] }

/-- The outstanding request of tag `t` is answered: its entry is emptied and its response joins the list (R141,
R148). Where no request is outstanding under the tag there is nothing to answer (R149). -/
def State.answer (s : State) (t : Tag) (code : RespCode) (data : Option (List Byte)) : State :=
  match s.request t with
  | none => s
  | some _ => (s.setRequest t none).respond ⟨t, code, data⟩

/-- The outstanding request of tag `t` is answered without read data. -/
def State.answerPlain (s : State) (t : Tag) (code : RespCode) : State := s.answer t code none

/-- Every request of a list is answered with one code, in list order. -/
def State.answerAll (s : State) (ts : List Tag) (code : RespCode) : State :=
  ts.foldl (fun s t => s.answerPlain t code) s

/-! ## Fault log, completion list and tickets -/

/-- Writing a fault record: it takes the sequence number, and is stored if the log has room; otherwise the overflow
mark is set (R170). -/
def State.writeFault (s : State) (b : FaultBody) : State :=
  if s.faultLog.length < Config.faultLogRoom then
    { s with faultLog := s.faultLog ++ [⟨s.sequence, b⟩], sequence := s.sequence + 1 }
  else
    { s with overflow := true, sequence := s.sequence + 1 }

/-- A completion record joins the tail of the completion list (R163). -/
def State.complete (s : State) (c : Completion) : State := { s with completions := s.completions ++ [c] }

/-- The completion record of an erase (R119, R120, R123, R175). -/
def eraseCompletion (d : DieIx) (e : EraseOp) (o : TicketOutcome) : Completion :=
  ⟨e.ticket, .erase, o, .die d, some (globalBlock d e.block)⟩

/-- The erase of a die that is ERASING: running, being halted, or halted in the context (R110). -/
def Die.activeErase (x : Die) : Option EraseOp :=
  match x.state with
  | .erasing e _ _ => some e
  | .halting (.erase e) _ _ => some e
  | _ =>
    x.context.findSome? fun c =>
      match c.op with
      | .erase e => some e
      | .program _ => none

/-- The erases queued on a die, in queue order. -/
def Die.queuedErases (x : Die) : List EraseOp :=
  x.workQueue.filterMap fun w =>
    match w with
    | .erase b t => some ⟨b, t⟩
    | .program _ => none

/-- The admitted erases of a die: the one that is ERASING first, then the queued ones (R87, R175). -/
def Die.admittedErases (x : Die) : List EraseOp := x.activeErase.toList ++ x.queuedErases

/-- The ticket of a die restart in progress (R89). -/
def Die.restartTicket (x : Die) : Option Ticket :=
  match x.state with
  | .offline (some (t, _)) => some t
  | _ => none

/-- The outstanding tickets: those of the admitted erases, of the flush tracking records and of the die restarts
in progress (R160). -/
def State.outstandingTickets (s : State) : List Ticket :=
  dieIndices.flatMap (fun d => (s.die d).admittedErases.map EraseOp.ticket)
    ++ s.flushes.map FlushRecord.ticket
    ++ dieIndices.filterMap (fun d => (s.die d).restartTicket)

/-- The ticket numbers in use (R160). -/
def State.ticketsInUse (s : State) : List Ticket := s.outstandingTickets ++ s.completions.map Completion.ticket

/-- The ticket space check of R161 fails. -/
def State.ticketSpaceFull (s : State) : Bool := Config.ticketRoom ≤ s.ticketsInUse.length

/-- The first number not in use, counting upwards from `t` and wrapping, looked for in at most `fuel` + 1 steps
(R160). -/
def firstFree (used : List Ticket) : Nat → Ticket → Ticket
  | 0, t => t
  | fuel + 1, t => if used.contains t then firstFree used fuel (t + 1) else t

/-- The ticket given to an admitted command (R160). At most seven numbers are in use then. -/
def State.nextTicket (s : State) : Ticket := firstFree s.ticketsInUse Config.ticketRoom s.ticketCounter

/-- The ticket counter after the ticket `t` is given (R160). -/
def State.giveTicket (s : State) (t : Ticket) : State := { s with ticketCounter := t + 1 }

end Sys2Proof.Machine
end

