-- ==== Sys2Proof/Machine/Operands.lean ====
section
/-! DEFINITION. The operand forms: how a host address splits, what a write covers, what a read returns, and the
byte layouts of chapter 11. -/

namespace Sys2Proof.Machine

open Sys2Proof

/-! ## Host addresses -/

/-- The line of a host byte address (00_scope.md section 3). -/
def lineOfAddress (a : BitVec 27) : LineAddr where
  die := Fin.ofNat 4 (a.toNat / Config.dieBytes)
  block := Fin.ofNat 256 (a.toNat % Config.dieBytes / Config.blockBytes)
  line := Fin.ofNat 2048 (a.toNat % Config.blockBytes / Config.lineBytes)

/-- The byte position of a host byte address in its line. -/
def positionOfAddress (a : BitVec 27) : Fin 64 := Fin.ofNat 64 (a.toNat % Config.lineBytes)

/-- The number of beats of a request. -/
def Payload.beats : Payload → Nat
  | .read n => n
  | .write bs => bs.length

/-- The request is a WRITE. -/
def Payload.isWrite : Payload → Bool
  | .read _ => false
  | .write _ => true

/-! ## What a write covers -/

/-- The beat and the byte within it that stand at byte position `p` of the line, where a beat of the write stands
there (R138). -/
def Request.beatAt (r : Request) (p : Nat) : Option (Beat × Fin 8) :=
  match r.payload with
  | .read _ => none
  | .write bs =>
    if r.position.val ≤ p then
      bs[(p - r.position.val) / 8]?.map fun b => (b, Fin.ofNat 8 ((p - r.position.val) % 8))
    else none

/-- The write covers byte position `p`: its byte enables include it (R1, R138). -/
def Request.covers (r : Request) (p : Nat) : Bool :=
  match r.beatAt p with
  | some (b, i) => b.enables.getLsbD i.val
  | none => false

/-- The byte the write gives for byte position `p`. -/
def Request.byteAt (r : Request) (p : Nat) : Byte :=
  match r.beatAt p with
  | some (b, i) => b.data[i]
  | none => 0

/-- The positions of a line, in increasing order. -/
def linePositions : List Nat := List.range 64

/-- No byte of any beat of the write is enabled (R43). -/
def Request.coversNothing (r : Request) : Bool := linePositions.all fun p => !r.covers p

/-- The bytes of a covered position pass the conflict check of the mode against the base byte and the written set
(R45, R46). -/
def byteFits (m : AdmittedMode) (new base : Byte) (alreadyWritten : Bool) : Bool :=
  match m with
  | .combine => new &&& ~~~base == 0
  | .appendOnce => base == 0xFF && !alreadyWritten

/-- The conflict check of a write against the base of a buffer (R44 to R46). -/
def Request.fits (r : Request) (m : AdmittedMode) (body : LineBody) : Bool :=
  linePositions.all fun p =>
    !r.covers p || byteFits m (r.byteAt p) (body.base.toList.getD p 0) (body.written.toList.getD p false)

/-- The detail of a write refused at the conflict check (R47). -/
def AdmittedMode.refusal : AdmittedMode → RefusedDetail
  | .combine => .conflict
  | .appendOnce => .writtenOnce

/-- The body of a buffer with a write overlaid (R10). -/
def LineBody.overlay (body : LineBody) (r : Request) : LineBody where
  base := body.base
  image := mapIndexed (fun p old => if r.covers p then r.byteAt p else old) body.image
  written := mapIndexed (fun p old => old || r.covers p) body.written

/-- The number of members of a written set. -/
def writtenCount (w : ByteSet) : Nat := w.toList.countP id

/-- The word mask of PROGRAM_LINE: every word of the line with at least one byte of the written set (R17). -/
def wordMask (w : ByteSet) : WordMask :=
  mapIndexed (fun i _ => (w.toList.drop (4 * i)).take 4 |>.any id) (Vector.replicate 16 false)

/-- A body that starts from a base, with nothing written (R5, R7, R9). -/
def LineBody.fresh (base : LineImage) : LineBody := ⟨base, base, Vector.replicate 64 false⟩

/-- The line of a clean block: 64 bytes of 0xFF (R5, R62). -/
def erasedLine : LineImage := Vector.replicate 64 0xFF

/-! ## What a read returns -/

/-- The bytes of a read of the request's beats from a line (R54). -/
def Request.readData (r : Request) (line : LineImage) : List Byte :=
  (line.toList.drop r.position.val).take (8 * r.payload.beats)

/-! ## Encodings of chapter 11 -/

/-- A number as one byte. -/
def byte (n : Nat) : Byte := BitVec.ofNat 8 n

/-- A number as two bytes, most significant first. -/
def twoBytes (n : Nat) : List Byte := [byte (n / 256), byte n]

/-- A number as four bytes, most significant first. -/
def fourBytes (n : Nat) : List Byte := [byte (n / 16777216), byte (n / 65536), byte (n / 256), byte n]

/-- A flag as a bit of a flags byte. -/
def flagBit (b : Bool) (i : Nat) : Nat := if b then 2 ^ i else 0

/-- Part mode (section 11.3). -/
def PartMode.code : PartMode → Byte
  | .running => 0x00
  | .starting => 0x01
  | .resetting => 0x02

/-- Die state (section 11.3). -/
def DieState.code : DieState → Byte
  | .starting _ => 0x00
  | .ready => 0x01
  | .reading _ _ => 0x02
  | .programming _ _ _ => 0x03
  | .erasing _ _ _ => 0x04
  | .halting _ _ _ => 0x05
  | .halted _ => 0x06
  | .offline _ => 0x07
  | .absent => 0x0F

/-- Erase state (section 11.3). -/
def EraseState.code : EraseState → Byte
  | .none => 0x00
  | .pending => 0x01
  | .erasing => 0x02

/-- Buffer state (section 11.3). -/
def Buffer.stateCode : Buffer → Byte
  | .free => 0x00
  | .loading _ _ _ => 0x01
  | .filling _ _ _ _ _ => 0x02
  | .posted _ _ _ _ => 0x03
  | .programming _ _ _ _ => 0x04

/-- A context entry as DIE_QUERY returns it (section 11.3). -/
def ContextEntry.encode (c : ContextEntry) : List Byte :=
  match c.op with
  | .program p => [0x01, byte p.block.val, byte p.buffer.val] ++ fourBytes c.budget
  | .erase e => [0x02, byte e.block.val, 0xFF] ++ fourBytes c.budget

/-- Status code of a reply (section 11.2). -/
def ReplyStatus.code : ReplyStatus → Nat
  | .done => 0x1
  | .accepted => 0x2
  | .notReady => 0x3
  | .refused _ => 0x4

/-- Reason code (section 11.2). -/
def Reason.code : Reason → Byte
  | .badCommand => 0x01
  | .badArgument => 0x02
  | .pinned => 0x03
  | .ceilingProtected => 0x04
  | .eraseNotPermitted => 0x05
  | .blockShut => 0x06
  | .alreadyPending => 0x07
  | .dieOffline => 0x08
  | .dieNotOffline => 0x09
  | .listFull => 0x0A
  | .overlap => 0x0B
  | .starting => 0x0C
  | .resetting => 0x0D

/-- The reason byte of a reply (section 11.2). -/
def ReplyStatus.reasonCode : ReplyStatus → Byte
  | .refused r => r.code
  | _ => 0x00

/-- The bytes of a reply (section 11.2). -/
def Reply.encode (r : Reply) : List Byte :=
  [r.commandByte, byte (r.status.code + flagBit r.dropped 7), r.status.reasonCode, byte r.fields.length] ++ r.fields

/-- MDO over a reply frame of `length` bytes: 0xFF in the first, then the reply, then 0xFF (R153, R185). -/
def Reply.shiftOut (r : Reply) (length : Nat) : List Byte :=
  ((0xFF :: r.encode) ++ List.replicate length 0xFF).take length

/-- Write mode (section 11.5). -/
def WriteMode.code : WriteMode → Byte
  | .readOnly => 0x00
  | .combine => 0x01
  | .appendOnce => 0x02

/-- The write mode of a byte, none where no table lists the value (section 11.5, R184). -/
def WriteMode.ofByte (b : Byte) : Option WriteMode :=
  if b = 0x00 then some .readOnly else if b = 0x01 then some .combine else if b = 0x02 then some .appendOnce else none

/-- Posting policy (section 11.5). -/
def Posting.code : Posting → Byte
  | .window => 0x00
  | .atOnce => 0x01

/-- The posting policy of a byte (section 11.5, R184). -/
def Posting.ofByte (b : Byte) : Option Posting :=
  if b = 0x00 then some .window else if b = 0x01 then some .atOnce else none

/-- The flag of a valid or erase-permitted byte, which is 0x00 or 0x01 (R184). -/
def flagOfByte (b : Byte) : Option Bool :=
  if b = 0x00 then some false else if b = 0x01 then some true else none

/-- The lock state of a byte (section 11.1). -/
def Lock.ofByte (b : Byte) : Option Lock :=
  if b = 0x00 then some .shut else if b = 0x01 then some .opened else none

/-- The scope of a FLUSH byte (section 11.1). -/
def FlushScope.ofByte (b : Byte) : Option FlushScope :=
  if b = 0xFF then some .all else if h : b.toNat < 4 then some (.die ⟨b.toNat, h⟩) else none

/-- A global block number, where the 16-bit field holds one. -/
def blockOfWord (w : BitVec 16) : Option GlobalBlock :=
  if h : w.toNat < 1024 then some ⟨w.toNat, h⟩ else none

/-- A die position, where the byte holds one. -/
def dieOfByte (b : Byte) : Option DieIx := if h : b.toNat < 4 then some ⟨b.toNat, h⟩ else none

/-- A ceiling value, where the 16-bit field holds one. -/
def ceilingOfWord (w : BitVec 16) : Option (Fin 257) :=
  if h : w.toNat < 257 then some ⟨w.toNat, h⟩ else none

/-- The region entry of REGION_WRITE's eight bytes, none where a value is out of range or unlisted or the first
block is above the last (R32 step 2, R184). -/
def regionOfFields (valid : Byte) (first last : BitVec 16) (mode erasePermitted posting : Byte) : Option RegionEntry :=
  match flagOfByte valid, blockOfWord first, blockOfWord last, WriteMode.ofByte mode, flagOfByte erasePermitted,
    Posting.ofByte posting with
  | some v, some f, some l, some m, some e, some p => if f.val ≤ l.val then some ⟨v, f, l, m, e, p⟩ else none
  | _, _, _, _, _, _ => none

/-- The region entry as eight bytes (section 11.5). -/
def RegionEntry.encode (e : RegionEntry) : List Byte :=
  [byte (flagBit e.valid 0)] ++ twoBytes e.first.val ++ twoBytes e.last.val
    ++ [e.mode.code, byte (flagBit e.erasePermitted 0), e.posting.code]

/-- The settings of CONFIGURE's nine bytes, none where a setting is out of its range (R159, R184). -/
def settingsOfFields (coalesce hold guard : BitVec 16) (holdOff budget enables : Byte) : Option Settings :=
  if coalesce.toNat ≤ Config.coalesceMax ∧ guard.toNat ≤ Config.guardMax ∧ budget.toNat ≤ Config.budgetMax
      ∧ enables.toNat < 4 then
    some ⟨coalesce.toNat, hold.toNat, guard.toNat, holdOff.toNat, budget.toNat, enables.getLsbD 0,
      enables.getLsbD 1⟩
  else none

/-- The configuration block as nine bytes (section 11.5). -/
def Settings.encode (c : Settings) : List Byte :=
  twoBytes c.coalesceWindow ++ twoBytes c.holdLimit ++ twoBytes c.guardInterval
    ++ [byte c.holdOff, byte c.interleaveBudget, byte (flagBit c.faultInterrupt 0 + flagBit c.completionInterrupt 1)]

/-- Loss cause (section 11.4). -/
def LossCause.code : LossCause → Byte
  | .programFail => 0x01
  | .blockFailed => 0x02
  | .dieOffline => 0x03

/-- Operation kind of a die timeout (section 11.4). -/
def TimeoutKind.code : TimeoutKind → Byte
  | .read => 0x01
  | .program => 0x02
  | .erase => 0x03
  | .halt => 0x04
  | .reset => 0x05

/-- Bytes 2 to 14 of a fault record: kind, presence, and the fields, an absent field sent as 0 (section 11.4). -/
def FaultBody.encode : FaultBody → List Byte
  | .programRetried l =>
    [0x01, 0x1C, 0, 0, byte l.die.val, byte l.block.val] ++ twoBytes l.line.val ++ [0, 0, 0, 0, 0]
  | .lineLost c l n =>
    [0x02, 0x3D, c.code, 0, byte l.die.val, byte l.block.val] ++ twoBytes l.line.val ++ twoBytes n ++ [0, 0, 0]
  | .eraseFail d b => [0x03, 0x0C, 0, 0, byte d.val, byte b.val, 0, 0, 0, 0, 0, 0, 0]
  | .dieTimeout k d b l =>
    [0x04, byte (0x06 + flagBit b.isSome 3 + flagBit l.isSome 4), 0, k.code, byte d.val, byte ((b.map Fin.val).getD 0)]
      ++ twoBytes ((l.map Fin.val).getD 0) ++ [0, 0, 0, 0, 0]
  | .resetDiscard n lines reqs erases =>
    [0x05, 0x60, 0, 0, 0, 0, 0, 0] ++ twoBytes n ++ [byte lines, byte reqs, byte erases]

/-- A fault record as FAULT_READ returns it, 15 bytes (section 11.4). -/
def FaultRecord.encode (r : FaultRecord) : List Byte := twoBytes r.sequence.toNat ++ r.body.encode

/-- The kind of a ticketed command (section 11.4). -/
def TicketKind.code : TicketKind → Byte
  | .erase => 0x01
  | .flush => 0x02
  | .dieRestart => 0x03

/-- The outcome of a ticketed command (section 11.4). -/
def TicketOutcome.code : TicketOutcome → Byte
  | .done => 0x01
  | .failed => 0x02
  | .cancelled => 0x03

/-- The die field of a completion record (section 11.4). -/
def FlushScope.code : FlushScope → Byte
  | .all => 0xFF
  | .die d => byte d.val

/-- A completion record as COMPLETION_READ returns it, 6 bytes (section 11.4). -/
def Completion.encode (c : Completion) : List Byte :=
  [byte c.ticket.val, c.kind.code, c.outcome.code, c.scope.code] ++ twoBytes ((c.block.map Fin.val).getD 0xFFFF)

/-- The code field of HRSP (section 11.6). -/
def RespCode.code : RespCode → BitVec 3
  | .ok => 0
  | .refused _ => 1
  | .fault _ => 2
  | .timeout => 3
  | .aborted => 4

/-- The detail value of a refused write (section 11.6). -/
def RefusedDetail.value : RefusedDetail → BitVec 3
  | .noRegion => 1
  | .readOnly => 2
  | .locked => 3
  | .conflict => 4
  | .writtenOnce => 5

/-- The detail value of a faulted request (section 11.6). -/
def FaultDetail.value : FaultDetail → BitVec 3
  | .address => 1
  | .align => 2
  | .dieOffline => 3
  | .blockFailed => 4
  | .duplicateTag => 5

/-- The detail field of HRSP: 0 with a code that has no detail (section 11.6). -/
def RespCode.detail : RespCode → BitVec 3
  | .refused d => d.value
  | .fault d => d.value
  | _ => 0

/-- The response as HRSP carries it (R147, section 11.6). -/
def Response.signals (r : Response) : HostResponseSignals :=
  ⟨BitVec.ofNat 4 r.tag.val, r.code.code, r.code.detail, r.data.getD []⟩

/-- The request as HREQ carries it: beats are sent as their number minus 1 (R138, section 11.6). -/
def hostRequestSignals (t : Tag) (a : BitVec 27) (p : Payload) : HostRequestSignals where
  kind := if p.isWrite then 1 else 0
  tag := BitVec.ofNat 4 t.val
  address := a
  beats := BitVec.ofNat 3 (p.beats - 1)
  lanes :=
    match p with
    | .read _ => []
    | .write beats => beats

/-- The tag that HREQ carries. -/
def HostRequestSignals.tagValue (q : HostRequestSignals) : Tag := Fin.ofNat 16 q.tag.toNat

/-- What the request on HREQ asks for: kind 0 is a READ of `beats` + 1 beats, and kind 1 a WRITE of that many
(section 11.6). -/
def HostRequestSignals.payload (q : HostRequestSignals) : Payload :=
  if q.kind = 0 then .read (q.beats.toNat + 1) else .write (q.lanes.take (q.beats.toNat + 1))

end Sys2Proof.Machine
end

