-- ==== Sys2Proof/Machine/Flags.lean ====
section
/-! DEFINITION. The conditions and levels that follow from the state and are not stored in it: which dies are
fitted, HRDY, IRQN, the pinned indication, the region of a block, the place of a request, the counts STATUS shows. -/

namespace Sys2Proof.Machine

open Sys2Proof

/-- The number of fitted dies, 1 to 4 (R71). -/
def State.fittedDies (s : State) : Nat := s.dcount.toNat + 1

/-- Die position `d` is fitted (R71). -/
def State.fitted (s : State) (d : DieIx) : Bool := d.val < s.fittedDies

/-- The fitted size of the host window in bytes (R71). -/
def State.fittedSize (s : State) : Nat := s.fittedDies * Config.dieBytes

/-- The fitted die positions, in increasing order. -/
def State.fittedIndices (s : State) : List DieIx := dieIndices.filter s.fitted

/-! ## The host port -/

/-- The number of outstanding requests (R139). -/
def State.outstandingCount (s : State) : Nat := s.table.toList.countP Option.isSome

/-- HRDY is high: the port is ready to accept (R139). -/
def State.hrdy (s : State) : Bool :=
  !s.rstnLow && s.mode == .running && s.outstandingCount + s.responses.length < Config.portRoom

/-- The request of tag `t` is an outstanding WRITE. -/
def State.isWrite (s : State) (t : Tag) : Bool :=
  match s.request t with
  | some r => r.payload.isWrite
  | none => false

/-- The request of tag `t` is an outstanding request for the line. -/
def State.isForLine (s : State) (l : LineAddr) (t : Tag) : Bool :=
  match s.request t with
  | some r => r.line == l
  | none => false

/-- The request of tag `t` is an outstanding request for the block. -/
def State.isForBlock (s : State) (g : GlobalBlock) (t : Tag) : Bool :=
  match s.request t with
  | some r => r.line.global == g
  | none => false

/-- The request of tag `t` is an outstanding request for a line of the die. -/
def State.isForDie (s : State) (d : DieIx) (t : Tag) : Bool :=
  match s.request t with
  | some r => r.line.die == d
  | none => false

/-- A write for the line is in the buffer wait list (R4, R53). -/
def State.writeWaits (s : State) (l : LineAddr) : Bool := s.waitList.any fun t => s.isWrite t && s.isForLine l t

/-- A write for the line stands in the hold list of its block (R53 read step 2). -/
def State.writeHeldInBlock (s : State) (l : LineAddr) : Bool :=
  (s.block l.global).holdList.any fun t => s.isWrite t && s.isForLine l t

/-- The buffer wait list holds a write for a line of the block (R81). -/
def State.writeWaitsForBlock (s : State) (g : GlobalBlock) : Bool :=
  s.waitList.any fun t => s.isWrite t && s.isForBlock g t

/-- The places of an outstanding request (R142). -/
inductive Place where
  | heldList (buffer : BufIx)
  | waitList
  | blockHoldList (block : GlobalBlock)
  | readQueue (die : DieIx)
  | readOutstanding (die : DieIx)
deriving DecidableEq, Repr

/-- The host request a read entry answers. -/
def ReadEntry.tag? : ReadEntry → Option Tag
  | .hostRead _ _ t => t
  | .baseLoad _ _ _ => none

/-- The held list of a buffer (R1). -/
def Buffer.held : Buffer → List Tag
  | .loading _ _ h => h
  | _ => []

/-- The places in which the outstanding request of tag `t` stands (R142): those of the held lists, of the wait
list, of its block's hold list and of its die's read queue that hold the tag. -/
def State.placesOf (s : State) (t : Tag) : List Place :=
  match s.request t with
  | none => []
  | some r =>
    (bufferIndices.filter fun i => (s.buffer i).held.contains t).map Place.heldList
      ++ (if s.waitList.contains t then [Place.waitList] else [])
      ++ (if (s.block r.line.global).holdList.contains t then [Place.blockHoldList r.line.global] else [])
      ++ (if (s.die r.line.die).readQueue.any (fun e => e.tag? == some t) then [Place.readQueue r.line.die] else [])
      ++ (match (s.die r.line.die).state with
          | .reading e _ => if e.tag? == some t then [Place.readOutstanding r.line.die] else []
          | _ => [])

/-! ## Blocks and regions -/

/-- The block is pinned: its number within its die is below that die's ceiling (R126). -/
def State.pinned (s : State) (g : GlobalBlock) : Bool := (blockOf g).val < (s.ceilings[dieOf g]).val

/-- The entry gives the block its region: it is valid and its range contains the block (R31). -/
def RegionEntry.contains (e : RegionEntry) (g : GlobalBlock) : Bool :=
  e.valid && e.first.val ≤ g.val && g.val ≤ e.last.val

/-- The region of a block, where it has one (R31). -/
def State.regionOf (s : State) (g : GlobalBlock) : Option RegionEntry := s.regions.toList.find? fun e => e.contains g

/-- Two ranges share a block (R32). -/
def RegionEntry.overlaps (a b : RegionEntry) : Bool := a.first.val ≤ b.last.val && b.first.val ≤ a.last.val

/-- The block's region has the AT_ONCE posting policy; a block in no region has the WINDOW policy (R10). -/
def State.postsAtOnce (s : State) (g : GlobalBlock) : Bool :=
  match s.regionOf g with
  | some e => e.posting == .atOnce
  | none => false

/-! ## Buffers -/

/-- The line a buffer holds (R1). -/
def Buffer.line? : Buffer → Option LineAddr
  | .free => none
  | .loading l _ _ => some l
  | .filling l _ _ _ _ => some l
  | .posted l _ _ _ => some l
  | .programming l _ _ _ => some l

/-- The open number of a buffer (R2). -/
def Buffer.openNumber? : Buffer → Option Nat
  | .free => none
  | .loading _ n _ => some n
  | .filling _ n _ _ _ => some n
  | .posted _ n _ _ => some n
  | .programming _ n _ _ => some n

/-- The base, image and written set of a buffer that has them (R1). -/
def Buffer.body? : Buffer → Option LineBody
  | .filling _ _ b _ _ => some b
  | .posted _ _ b _ => some b
  | .programming _ _ b _ => some b
  | _ => none

/-- The predecessor link of a buffer (R1). -/
def Buffer.predecessor? : Buffer → Option BufIx
  | .filling _ _ _ p _ => p
  | .posted _ _ _ p => p
  | _ => none

/-- The point at which a buffer's coalesce timer runs out, absent when it is stopped (R13). -/
def Buffer.coalesceDue? : Buffer → Option Nat
  | .filling _ _ _ _ t => t
  | _ => none

/-- The number of members of a buffer's written set; it is empty in LOADING (R1). -/
def Buffer.writtenCount (b : Buffer) : Nat :=
  match b.body? with
  | some x => Machine.writtenCount x.written
  | none => 0

/-- The buffer is FREE. -/
def Buffer.isFree (b : Buffer) : Bool := b == .free

/-- The buffer is LOADING. -/
def Buffer.isLoading : Buffer → Bool
  | .loading _ _ _ => true
  | _ => false

/-- The buffer is FILLING. -/
def Buffer.isFilling : Buffer → Bool
  | .filling _ _ _ _ _ => true
  | _ => false

/-- The buffer is POSTED. -/
def Buffer.isPosted : Buffer → Bool
  | .posted _ _ _ _ => true
  | _ => false

/-- The buffer is PROGRAMMING. -/
def Buffer.isProgramming : Buffer → Bool
  | .programming _ _ _ _ => true
  | _ => false

/-- The FREE buffer with the lowest index (R5). -/
def State.lowestFree (s : State) : Option BufIx := bufferIndices.find? fun i => (s.buffer i).isFree

/-- The buffer in LOADING, FILLING or POSTED that holds the line: the one a request of the line meets (R4). -/
def State.openBuffer (s : State) (l : LineAddr) : Option BufIx :=
  bufferIndices.find? fun i => (s.buffer i).line? == some l && !(s.buffer i).isProgramming

/-- The PROGRAMMING buffer that holds the line (R4). -/
def State.programmingBuffer (s : State) (l : LineAddr) : Option BufIx :=
  bufferIndices.find? fun i => (s.buffer i).line? == some l && (s.buffer i).isProgramming

/-- The buffer holds a line of the block. -/
def Buffer.inBlock (b : Buffer) (g : GlobalBlock) : Bool :=
  match b.line? with
  | some l => l.global == g
  | none => false

/-- The buffer holds a line of the die. -/
def Buffer.inDie (b : Buffer) (d : DieIx) : Bool :=
  match b.line? with
  | some l => l.die == d
  | none => false

/-- The newest image of a line: the successor's or unlinked buffer's where it has one, otherwise the PROGRAMMING
buffer's (R60). -/
def State.newestImage (s : State) (l : LineAddr) : Option LineImage :=
  match (s.openBuffer l).bind fun i => (s.buffer i).body? with
  | some b => some b.image
  | none => ((s.programmingBuffer l).bind fun i => (s.buffer i).body?).map LineBody.image

/-- How many buffers satisfy a predicate. -/
def State.countBuffers (s : State) (p : Buffer → Bool) : Nat := bufferIndices.countP fun i => p (s.buffer i)

/-! ## The management port -/

/-- The reason with which the commands of R156 are refused during start-up and channel reset. -/
def State.busyReason (s : State) : Option Reason :=
  match s.mode with
  | .running => none
  | .starting => some .starting
  | .resetting => some .resetting

/-- IRQN is asserted (R167). It is released while RSTN is low. -/
def State.irqnAsserted (s : State) : Bool :=
  !s.rstnLow
    && ((s.settings.faultInterrupt && !s.faultLog.isEmpty)
        || (s.settings.completionInterrupt && !s.completions.isEmpty))

/-! ## Dies -/

/-- The die is OFFLINE (R70). -/
def Die.isOffline (x : Die) : Bool :=
  match x.state with
  | .offline _ => true
  | _ => false

/-- The die is STARTING (R70). -/
def Die.isStarting (x : Die) : Bool :=
  match x.state with
  | .starting _ => true
  | _ => false

/-- The number of entries of a die read queue, the outstanding one counted (R67, R74). -/
def Die.readLength (x : Die) : Nat :=
  x.readQueue.length + (match x.state with
    | .reading _ _ => 1
    | _ => 0)

end Sys2Proof.Machine
end

