-- ==== Sys2Proof/Machine/Buffers.lean ====
section
/-! DEFINITION. The shared operations of the line buffer pool: posting, merging, opening, freeing and discarding
a buffer, joining the lists, and the end of a flush (chapter 1). -/

namespace Sys2Proof.Machine

open Sys2Proof

/-! ## Posting -/

/-- A work queue with buffer `i`'s PROGRAM entry immediately ahead of the block's ERASE entry, or at the tail
where the queue holds none (R15). -/
def insertAhead (b : BlockIx) (i : BufIx) : List WorkEntry → List WorkEntry
  | [] => [.program i]
  | .program j :: rest => .program j :: insertAhead b i rest
  | .erase b' t :: rest =>
    if b' = b then .program i :: .erase b' t :: rest else .erase b' t :: insertAhead b i rest

/-- Posting a FILLING buffer: it becomes POSTED, its timer stops, and its PROGRAM entry joins the tail of its
die's work queue, or goes immediately ahead of its block's ERASE entry while the block is ERASE_PENDING (R12, R15).
A buffer in any other state is left as it is. -/
def State.post (s : State) (i : BufIx) : State :=
  match s.buffer i with
  | .filling l n body p _ =>
    (s.setBuffer i (.posted l n body p)).modifyDie l.die fun x =>
      { x with workQueue :=
          if (s.block l.global).erase = .pending then insertAhead l.block i x.workQueue
          else x.workQueue ++ [.program i] }
  | _ => s

/-- The FILLING buffer with the lowest open number among those of the list that satisfy `p`. -/
def State.lowestFilling (s : State) (p : Buffer → Bool) : List BufIx → Option BufIx
  | [] => none
  | i :: rest =>
    match s.buffer i, s.lowestFilling p rest with
    | .filling l n body pr t, some j =>
      if p (.filling l n body pr t) then
        if n < (s.buffer j).openNumber?.getD 0 then some i else some j
      else some j
    | .filling l n body pr t, none => if p (.filling l n body pr t) then some i else none
    | _, best => best

/-- Pressure posting: the FILLING buffer with the lowest open number, of any die, is posted (R24). -/
def State.pressurePost (s : State) : State :=
  match s.lowestFilling (fun _ => true) bufferIndices with
  | some i => s.post i
  | none => s

/-- Every FILLING buffer that satisfies `p` is posted, one at a time in increasing open number, at most `fuel` of
them (R15, R27). -/
def State.postEach (p : Buffer → Bool) : Nat → State → State
  | 0, s => s
  | fuel + 1, s =>
    match s.lowestFilling p bufferIndices with
    | some i => State.postEach p fuel (s.post i)
    | none => s

/-- Every FILLING buffer that satisfies `p` is posted in increasing open number. -/
def State.postAll (s : State) (p : Buffer → Bool) : State := State.postEach p 12 s

/-- A posting cause holds for buffer `i` after a merge: its written set is complete, the coalesce window is 0, its
block's region posts AT_ONCE, its block is ERASE_PENDING, or it is a member of an admitted flush (R10, R14). -/
def State.postingCause (s : State) (i : BufIx) (l : LineAddr) (body : LineBody) : Bool :=
  body.written.toList.all id
    || s.settings.coalesceWindow == 0
    || s.postsAtOnce l.global
    || (s.block l.global).erase == .pending
    || s.flushes.any fun f => f.members.contains i

/-- A FILLING buffer for which a posting cause holds is posted (R10). -/
def State.postIfCaused (s : State) (i : BufIx) : State :=
  match s.buffer i with
  | .filling l _ body _ _ => if s.postingCause i l body then s.post i else s
  | _ => s

/-! ## Merging -/

/-- The point at which a coalesce timer that starts now runs out; with a window of 0 no timer runs (R13). -/
def State.coalescePoint (s : State) : Option Nat :=
  if s.settings.coalesceWindow = 0 then none else some (s.now + s.settings.coalesceWindow)

/-- The mode a write is judged under: its admitted mode. Every write that reaches a buffer has one (R41). -/
def Request.judgedMode (r : Request) : AdmittedMode := r.mode.getD .combine

/-- The write is overlaid on the buffer's image, its bytes join the written set, a FILLING buffer's coalesce timer
restarts, and the write is answered OK (R10, R16). -/
def State.merge (s : State) (i : BufIx) (t : Tag) (r : Request) : State :=
  match s.buffer i with
  | .filling l n body p _ =>
    (s.setBuffer i (.filling l n (body.overlay r) p s.coalescePoint)).answerPlain t .ok
  | .posted l n body p => (s.setBuffer i (.posted l n (body.overlay r) p)).answerPlain t .ok
  | _ => s

/-- A held write is judged at base arrival: it is merged if it passes the conflict check, and otherwise refused with
the detail of its admitted mode (R9, R44, R47, R48). -/
def State.judge (s : State) (i : BufIx) (t : Tag) : State :=
  match s.request t, (s.buffer i).body? with
  | some r, some body =>
    if r.fits r.judgedMode body then s.merge i t r else s.answerPlain t (.refused r.judgedMode.refusal)
  | _, _ => s

/-- A write meets a FILLING or POSTED buffer: merged, it may post the buffer; refused, it raises no posting cause
(R4, R10, R16, R47). -/
def State.meet (s : State) (i : BufIx) (t : Tag) : State :=
  match s.request t, (s.buffer i).body? with
  | some r, some body =>
    if r.fits r.judgedMode body then (s.merge i t r).postIfCaused i
    else s.answerPlain t (.refused r.judgedMode.refusal)
  | _, _ => s

/-! ## The lists a request joins -/

/-- A request joins the tail of the buffer wait list (R23). -/
def State.joinWait (s : State) (t : Tag) : State := { s with waitList := s.waitList ++ [t] }

/-- A write joins the tail of the buffer wait list, which causes pressure posting (R23, R24). -/
def State.writeJoinsWait (s : State) (t : Tag) : State := (s.joinWait t).pressurePost

/-- A request leaves the buffer wait list. -/
def State.leaveWait (s : State) (t : Tag) : State := { s with waitList := s.waitList.filter (· != t) }

/-- A request joins the tail of a LOADING buffer's held list (R8). -/
def State.joinHeld (s : State) (i : BufIx) (t : Tag) : State :=
  match s.buffer i with
  | .loading l n h => s.setBuffer i (.loading l n (h ++ [t]))
  | _ => s

/-- A request joins the tail of its block's hold list (R39, R58, R115). -/
def State.joinHold (s : State) (g : GlobalBlock) (t : Tag) : State :=
  s.modifyBlock g fun b => { b with holdList := b.holdList ++ [t] }

/-- An array read for the host read joins the tail of its die's read queue (R64). -/
def State.queueArrayRead (s : State) (t : Tag) : State :=
  match s.request t with
  | some r => s.modifyDie r.line.die fun x => x.joinReads (.hostRead r.line.block r.line.line (some t))
  | none => s

/-- A host read is answered OK with its beats from a line (R54). -/
def State.answerRead (s : State) (t : Tag) (line : LineImage) : State :=
  match s.request t with
  | some r => s.answer t .ok (some (r.readData line))
  | none => s

/-! ## Freeing -/

/-- A buffer without its link to a predecessor that has become FREE (R18). -/
def Buffer.unlink (b : Buffer) (i : BufIx) : Buffer :=
  match b with
  | .filling l n body p t => .filling l n body (if p = some i then none else p) t
  | .posted l n body p => .posted l n body (if p = some i then none else p)
  | x => x

/-- A buffer becomes FREE: a successor loses its link to it (R18), and it leaves the member list of every flush
tracking record (R28). -/
def State.freeBuffer (s : State) (i : BufIx) : State :=
  { s with
    buffers := mapIndexed (fun j b => if j = i.val then .free else b.unlink i) s.buffers
    flushes := s.flushes.map fun f => { f with members := f.members.filter (· != i) } }

/-- The completion record of a flush (R28, R175). -/
def FlushRecord.completion (f : FlushRecord) (o : TicketOutcome) : Completion := ⟨f.ticket, .flush, o, f.scope, none⟩

/-- Every flush whose member list is empty is complete: its record ends and its completion is recorded DONE, in
the order of admission (R28). -/
def State.completeFlushes (s : State) : State :=
  { s with
    flushes := s.flushes.filter fun f => !f.members.isEmpty
    completions := s.completions
      ++ (s.flushes.filter fun f => f.members.isEmpty).map fun f => f.completion .done }

/-! ## Opening -/

/-- A buffer opens for a line: it takes the open number, and the counter increases (R2, R5). -/
def State.openAs (s : State) (i : BufIx) (b : Nat → Buffer) : State :=
  { s.setBuffer i (b s.openCounter) with openCounter := s.openCounter + 1 }

/-- A write opens a buffer with a base at hand: on a clean block with 64 bytes of 0xFF, or as a successor with a
copy of its predecessor's image and a link to it. It is checked against that base at once; refused, the buffer
returns to FREE (R5, R7, R47). -/
def State.openWithBase (s : State) (i : BufIx) (t : Tag) (base : LineImage) (predecessor : Option BufIx) : State :=
  match s.request t with
  | none => s
  | some r =>
    let opened := s.openAs i fun n => .filling r.line n (.fresh base) predecessor none
    if r.fits r.judgedMode (.fresh base) then (opened.merge i t r).postIfCaused i
    else (opened.answerPlain t (.refused r.judgedMode.refusal)).freeBuffer i

/-- A write opens a LOADING buffer: its held list is the write alone, and a base load joins the tail of its die's
read queue (R6). -/
def State.openLoading (s : State) (i : BufIx) (t : Tag) : State :=
  match s.request t with
  | none => s
  | some r =>
    (s.openAs i fun n => .loading r.line n [t]).modifyDie r.line.die fun x =>
      x.joinReads (.baseLoad r.line.block r.line.line i)

/-! ## Discarding -/

/-- The two causes of a discard (R21). -/
inductive DiscardCause where
  | blockFailed | dieOffline
deriving DecidableEq, Repr

/-- The cause a LINE_LOST record of the discard carries. -/
def DiscardCause.loss : DiscardCause → LossCause
  | .blockFailed => .blockFailed
  | .dieOffline => .dieOffline

/-- The entry is buffer `i`'s base load. -/
def ReadEntry.isBaseLoadOf (e : ReadEntry) (i : BufIx) : Bool :=
  match e with
  | .baseLoad _ _ j => j == i
  | .hostRead _ _ _ => false

/-- A request of a discarded LOADING buffer's held list is settled: with BLOCK_FAILED a write is answered
FAULT(BLOCK_FAILED) and a read joins the die read queue; with DIE_OFFLINE either is answered FAULT(DIE_OFFLINE)
(R21). -/
def State.settleHeld (cause : DiscardCause) (s : State) (t : Tag) : State :=
  match cause with
  | .dieOffline => s.answerPlain t (.fault .dieOffline)
  | .blockFailed => if s.isWrite t then s.answerPlain t (.fault .blockFailed) else s.queueArrayRead t

/-- A buffer that holds written bytes ends without a program: LINE_LOST is recorded and its PROGRAM entry leaves
the work queue (R21). -/
def State.loseLine (s : State) (i : BufIx) (cause : LossCause) (l : LineAddr) (body : LineBody) : State :=
  (s.writeFault (.lineLost cause l (Machine.writtenCount body.written))).modifyDie l.die fun x =>
    { x with workQueue := x.workQueue.filter (· != .program i) }

/-- Discarding a buffer: what happens to its held requests or written bytes by its state, and the buffer becomes
FREE (R21). -/
def State.discard (cause : DiscardCause) (s : State) (i : BufIx) : State :=
  match s.buffer i with
  | .free => s
  | .loading l _ h =>
    let withdrawn := s.modifyDie l.die fun x => { x with readQueue := x.readQueue.filter fun e => !e.isBaseLoadOf i }
    (h.foldl (State.settleHeld cause) withdrawn).freeBuffer i
  | .filling l _ body _ _ => (s.loseLine i cause.loss l body).freeBuffer i
  | .posted l _ body _ => (s.loseLine i cause.loss l body).freeBuffer i
  | .programming l _ body _ => (s.loseLine i cause.loss l body).freeBuffer i

/-- Every buffer that satisfies `p` is discarded, one at a time in increasing index (R20, R87). -/
def State.discardAll (s : State) (cause : DiscardCause) (p : BufIx → Buffer → Bool) : State :=
  (bufferIndices.filter fun i => p i (s.buffer i)).foldl (State.discard cause) s

end Sys2Proof.Machine
end

