-- ==== Sys2Proof/Machine/Admission.lean ====
section
/-! DEFINITION. Write admission: steps 2 to 6 as a verdict read from the state, the pool step as a course, and
what each does (chapter 2, R4). -/

namespace Sys2Proof.Machine

open Sys2Proof

/-- What steps 2 to 6 of admission, and the empty write of R43, decide for a write. -/
inductive Verdict where
  | answered (code : RespCode)
  | held
  | admitted (mode : AdmittedMode)
deriving DecidableEq, Repr

/-- Steps 2 to 6 of write admission, in order, then the write with no enabled byte (R36 to R43). -/
def State.verdict (s : State) (r : Request) : Verdict :=
  let b := s.block r.line.global
  if (s.die r.line.die).isOffline then .answered (.fault .dieOffline)
  else if b.health = .failed then .answered (.fault .blockFailed)
  else if b.erase ≠ .none ∧ r.mark = false then .held
  else
    match s.regionOf r.line.global with
    | none => .answered (.refused .noRegion)
    | some e =>
      match e.mode with
      | .readOnly => .answered (.refused .readOnly)
      | .combine =>
        if b.lock = .shut then .answered (.refused .locked)
        else if r.coversNothing then .answered .ok else .admitted .combine
      | .appendOnce =>
        if b.lock = .shut then .answered (.refused .locked)
        else if r.coversNothing then .answered .ok else .admitted .appendOnce

/-- Where the pool step directs an admitted write (R4). -/
inductive Course where
  | wait
  | joinHeld (i : BufIx)
  | meet (i : BufIx)
  | successor (i p : BufIx)
  | openClean (i : BufIx)
  | openLoading (i : BufIx)
deriving DecidableEq, Repr

/-- The rows of R4 that look at the line's buffers: its LOADING, FILLING or POSTED buffer; otherwise a successor to
its PROGRAMMING buffer or a new buffer, in the lowest FREE index; otherwise the wait list (R4 to R7, R23). -/
def State.bufferCourse (s : State) (l : LineAddr) : Course :=
  match s.openBuffer l with
  | some i => if (s.buffer i).isLoading then .joinHeld i else .meet i
  | none =>
    match s.lowestFree with
    | none => .wait
    | some i =>
      match s.programmingBuffer l with
      | some p => .successor i p
      | none => if (s.block l.global).clean then .openClean i else .openLoading i

/-- The pool step's table, whose first row is the write of the line that waits already (R4). -/
def State.course (s : State) (l : LineAddr) : Course := if s.writeWaits l then .wait else s.bufferCourse l

/-- An admitted write takes its course. -/
def State.take (s : State) (t : Tag) : Course → State
  | .wait => s.writeJoinsWait t
  | .joinHeld i => s.joinHeld i t
  | .meet i => s.meet i t
  | .successor i p =>
    match (s.buffer p).body? with
    | some body => s.openWithBase i t body.image (some p)
    | none => s
  | .openClean i => s.openWithBase i t erasedLine none
  | .openLoading i => s.openLoading i t

/-- The write carries the mode it was admitted under (R41). -/
def State.stampMode (s : State) (t : Tag) (r : Request) (m : AdmittedMode) : State :=
  s.setRequest t (some { r with mode := some m })

/-- A write taken through steps 2 to 6 and, if they pass it, through the pool step given by `course`
(R36, R49, R50). -/
def State.processWrite (course : State → LineAddr → Course) (s : State) (t : Tag) : State :=
  match s.request t with
  | none => s
  | some r =>
    match s.verdict r with
    | .answered code => s.answerPlain t code
    | .held => s.joinHold r.line.global t
    | .admitted m => (s.stampMode t r m).take t (course s r.line)

end Sys2Proof.Machine
end

