-- ==== Sys2Proof/Machine/ReadService.lean ====
section
/-! DEFINITION. Read service: the seven read steps as a verdict read from the state, and what each does
(chapter 3). -/

namespace Sys2Proof.Machine

open Sys2Proof

/-- Where the read steps send a read (R53). -/
inductive ReadCourse where
  | wait
  | joinHeld (i : BufIx)
  | hold
  | answered (line : LineImage)
  | offline
  | array
deriving DecidableEq, Repr

/-- The LOADING buffer that holds the line. -/
def State.loadingBuffer (s : State) (l : LineAddr) : Option BufIx :=
  (s.openBuffer l).bind fun i => if (s.buffer i).isLoading then some i else none

/-- Read steps 2 to 7, in order (R57 to R64). -/
def State.laterReadCourse (s : State) (r : Request) : ReadCourse :=
  match (if s.writeHeldInBlock r.line then none else s.loadingBuffer r.line) with
  | some i => .joinHeld i
  | none =>
    if (s.block r.line.global).erase ≠ .none ∧ r.mark = false then .hold
    else
      match s.newestImage r.line with
      | some image => .answered image
      | none =>
        if (s.block r.line.global).clean then .answered erasedLine
        else if (s.die r.line.die).isOffline then .offline
        else .array

/-- The seven read steps, in order (R53). -/
def State.readCourse (s : State) (r : Request) : ReadCourse :=
  if s.writeWaits r.line then .wait else s.laterReadCourse r

/-- A read takes its course (R56 to R64). -/
def State.takeRead (s : State) (t : Tag) (r : Request) : ReadCourse → State
  | .wait => s.joinWait t
  | .joinHeld i => s.joinHeld i t
  | .hold => s.joinHold r.line.global t
  | .answered line => s.answerRead t line
  | .offline => s.answerPlain t (.fault .dieOffline)
  | .array => s.queueArrayRead t

/-- A read is taken through the read steps given by `course`. -/
def State.processRead (course : State → Request → ReadCourse) (s : State) (t : Tag) : State :=
  match s.request t with
  | none => s
  | some r => s.takeRead t r (course s r)

/-- A request that has left a list is taken up again: a write through admission and the pool step, a read through the
read steps given by `reads` (R49, R53). -/
def State.processVia (reads : State → Request → ReadCourse) (s : State) (t : Tag) : State :=
  if s.isWrite t then s.processWrite State.course t else s.processRead reads t

/-- A request that has left a list is taken up as if it had just arrived (R49, R53, R119). -/
def State.process (s : State) (t : Tag) : State := s.processVia State.readCourse t

end Sys2Proof.Machine
end

