-- ==== Sys2Proof/Machine/HandOver.lean ====
section
/-! DEFINITION. The buffer wait list when a buffer becomes FREE or a waiting write leaves: the hand-over (R25)
and the reads that no write of their line holds back any more (R26). -/

namespace Sys2Proof.Machine

open Sys2Proof

/-- The reads of the line that stand in the list with no write of the line ahead of them, in list order (R26). -/
def State.unblockedReads (s : State) (l : LineAddr) : List Tag → List Tag
  | [] => []
  | t :: rest =>
    if s.isForLine l t then
      if s.isWrite t then [] else t :: s.unblockedReads l rest
    else s.unblockedReads l rest

/-- A write of the line has left the wait list: the reads with no write of their line ahead leave it together and
are placed, in arrival order, by read steps 2 to 7 (R26, R56). -/
def State.releaseReads (s : State) (l : LineAddr) : State :=
  let released := s.unblockedReads l s.waitList
  released.foldl (State.processRead State.laterReadCourse)
    { s with waitList := s.waitList.filter fun t => !released.contains t }

/-- A write of the read's line that was accepted before the read stands in the block hold list (R143). -/
def State.writeHeldAhead (s : State) (r : Request) : Bool :=
  (s.block r.line.global).holdList.any fun t =>
    match s.request t with
    | some w => w.payload.isWrite && w.line == r.line && w.order < r.order
    | none => false

/-- Where a read goes that leaves the wait list behind the write that has just opened its line. Behind a write of its
line that was accepted before it and stands in the block hold list, the read steps place it as they stand, so that it
joins that list behind the write (R53, R58, R143). Otherwise it meets the buffer just opened, in the held list of a
LOADING one or answered from the image of another, whatever the erase state of the block and whatever later writes of
the line are held (R25, R56, R59, R114). DESIGN CHOICE (log entry 30): R53 takes every such read through all seven
steps afresh, and R59 and R114 send every such read to the buffer; the order of acceptance decides between them. -/
def State.pulledReadCourse (s : State) (r : Request) : ReadCourse :=
  if s.writeHeldAhead r then s.readCourse r
  else
    match s.openBuffer r.line with
    | none => s.readCourse r
    | some i =>
      match (s.buffer i).body? with
      | some body => .answered body.image
      | none => .joinHeld i

/-- The line has just been opened: every other waiting request for it leaves the wait list, and each is handled in
arrival order. A write has its checks made again and meets the line as R4 gives, and a read meets the buffer just
opened, or stays behind an earlier write that is held (R25, R56, R143). -/
def State.pullLine (s : State) (l : LineAddr) : State :=
  let pulled := s.waitList.filter (s.isForLine l)
  pulled.foldl (State.processVia State.pulledReadCourse)
    { s with waitList := s.waitList.filter fun t => !s.isForLine l t }

/-- The first waiting write (R25). -/
def State.firstWaitingWrite (s : State) : Option Tag := s.waitList.find? s.isWrite

/-- The first waiting write takes the freed buffer: it leaves the list, has its checks made again, and opens its
line. Then the other requests of its line follow it; where it opened nothing, the reads it held back are released
(R25, R26, R49, R50). -/
def State.handTo (s : State) (t : Tag) : State :=
  match s.request t with
  | none => s.leaveWait t
  | some r =>
    let met := (s.leaveWait t).processWrite State.bufferCourse t
    if (met.openBuffer r.line).isSome then met.pullLine r.line else met.releaseReads r.line

/-- Freed buffers are handed to waiting writes until no buffer is FREE or no write waits (R25). Each hand-over
takes one write from the list, so the list's length is fuel enough. -/
def State.handOverLoop : Nat → State → State
  | 0, s => s
  | fuel + 1, s =>
    match s.lowestFree, s.firstWaitingWrite with
    | some _, some t => State.handOverLoop fuel (s.handTo t)
    | _, _ => s

/-- Freed buffers count for flush tracking and are handed to waiting writes (R25, R28). -/
def State.afterFree (s : State) : State :=
  let counted := s.completeFlushes
  State.handOverLoop counted.waitList.length counted

end Sys2Proof.Machine
end

