-- ==== Sys2Proof/Machine/DieController.lean ====
section
/-! DEFINITION. The die controller: sending a message with what it starts, the arbiter, the hold-off decision, the
state a die takes after an operation, and a die going OFFLINE (chapters 4 and 5). -/

namespace Sys2Proof.Machine

open Sys2Proof

/-! ## Sending -/

/-- The guard timer as it starts now: absent, the guard having passed, with a guard interval of 0 (R92). -/
def State.guardPoint (s : State) : Option Nat :=
  if s.settings.guardInterval = 0 then none else some (s.now + s.settings.guardInterval)

/-- The block and line of a read entry. -/
def ReadEntry.place : ReadEntry → BlockIx × LineIx
  | .hostRead b l _ => (b, l)
  | .baseLoad b l _ => (b, l)

/-- The head of the die read queue is sent as READ_LINE: its limit starts and the die becomes READING (R79). -/
def State.sendRead (s : State) (d : DieIx) (e : ReadEntry) (rest : List ReadEntry) : State :=
  (s.modifyDie d fun x => { x with state := .reading e (s.now + Config.readLimit), readQueue := rest }).send d
    (.readLine e.place.1 e.place.2)

/-- The buffer as its PROGRAM_LINE is sent: POSTED becomes PROGRAMMING, and a retry's buffer stays as it is
(R17, R19). -/
def Buffer.started : Buffer → Buffer
  | .posted l n body _ => .programming l n body 0
  | b => b

/-- Starting the program of buffer `i`: its entry leaves the work queue, PROGRAM_LINE is sent with the image and the
word mask, the buffer becomes PROGRAMMING, the block's clean flag is cleared, the limit and the guard timer start,
and the die becomes PROGRAMMING with its context kept (R80, R100). -/
def State.startProgram (s : State) (d : DieIx) (i : BufIx) : State :=
  match (s.buffer i).line?, (s.buffer i).body? with
  | some l, some body =>
    (((s.setBuffer i (s.buffer i).started).modifyBlock l.global fun b => { b with clean := false }).modifyDie d fun x =>
      { x with
        state := .programming ⟨l.block, l.line, i⟩ (s.now + Config.programLimit) s.guardPoint
        workQueue := x.workQueue.erase (.program i) }).send d
      (.programLine l.block l.line body.image (wordMask body.written))
  | _, _ => s

/-- Starting an erase: its entry leaves the head of the work queue, ERASE_BLOCK is sent, the block becomes ERASING
with its clean flag cleared, the limit and the guard timer start, and the die becomes ERASING (R81, R117). -/
def State.startErase (s : State) (d : DieIx) (e : EraseOp) (rest : List WorkEntry) : State :=
  ((s.modifyBlock (globalBlock d e.block) fun b => { b with erase := .erasing, clean := false }).modifyDie d fun x =>
    { x with state := .erasing e (s.now + Config.eraseLimit) s.guardPoint, workQueue := rest }).send d
    (.eraseBlock e.block)

/-- HALT is sent: the guard timer stops, the die becomes HALTING, and the HALT limit starts beside the operation's
own (R93). -/
def State.sendHalt (s : State) (d : DieIx) (op : ArrayOp) (due : Nat) : State :=
  (s.modifyDie d fun x => x.withState (.halting op due (s.now + Config.haltLimit))).send d .halt

/-- The die state in which an operation runs with the given limit and guard timer. -/
def ArrayOp.runningState (op : ArrayOp) (due : Nat) (guard : Option Nat) : DieState :=
  match op with
  | .program p => .programming p due guard
  | .erase e => .erasing e due guard

/-- CONTINUE is sent for the top entry of the halt context: it is popped, its limit resumes from the stored budget,
and the guard timer starts (R101). A die with an empty context has nothing to continue. -/
def State.sendContinue (s : State) (d : DieIx) : State :=
  match (s.die d).context.getLast? with
  | none => s
  | some c =>
    (s.modifyDie d fun x =>
      { x with state := c.op.runningState (s.now + c.budget) s.guardPoint, context := x.context.dropLast }).send d
      .resume

/-! ## The arbiter -/

/-- The buffer still holds a predecessor link (R80). -/
def State.linked (s : State) (i : BufIx) : Bool := (s.buffer i).predecessor?.isSome

/-- The first PROGRAM entry of the queue whose buffer holds no predecessor link (R81). -/
def State.firstStartable (s : State) : List WorkEntry → Option BufIx
  | [] => none
  | .program i :: rest => if s.linked i then s.firstStartable rest else some i
  | .erase _ _ :: rest => s.firstStartable rest

/-- The ERASE entry of the block may not start: a buffer of the block is LOADING or FILLING, or a write for the block
waits for a buffer (R81). -/
def State.eraseHeldBack (s : State) (g : GlobalBlock) : Bool :=
  (bufferIndices.any fun i =>
    (s.buffer i).inBlock g && ((s.buffer i).isLoading || (s.buffer i).isFilling))
    || s.writeWaitsForBlock g

/-- A READY die with an empty read queue serves its work queue (R80, R81). -/
def State.serveWork (s : State) (d : DieIx) : State :=
  match (s.die d).workQueue with
  | [] => s
  | .program i :: _ => if s.linked i then s else s.startProgram d i
  | .erase b t :: rest =>
    if s.eraseHeldBack (globalBlock d b) then
      match s.firstStartable rest with
      | some i => s.startProgram d i
      | none => s
    else s.startErase d ⟨b, t⟩ rest

/-- The program that the hold-off decision starts inside an erase halt, where it starts one: the context is one erase
and nothing else, the head of the work queue is a PROGRAM of another block with no predecessor link, and the
interleave count is below the budget (R99). -/
def State.interleaveCandidate (s : State) (d : DieIx) : Option BufIx :=
  match (s.die d).context, (s.die d).workQueue with
  | [⟨.erase e, _⟩], .program i :: _ =>
    if !(s.buffer i).inBlock (globalBlock d e.block) && !s.linked i
        && (s.die d).interleave < s.settings.interleaveBudget then some i
    else none
  | _, _ => none

/-- The hold-off decision: an interleaved program, which raises the interleave count, or CONTINUE
(R99 to R101). -/
def State.decide (s : State) (d : DieIx) : State :=
  match s.interleaveCandidate d with
  | some i => (s.startProgram d i).modifyDie d fun x => { x with interleave := x.interleave + 1 }
  | none => s.sendContinue d

/-- The hold-off timer starts; with a hold-off of 0 the decision is taken at once (R98). -/
def State.startHoldOff (s : State) (d : DieIx) : State :=
  if s.settings.holdOff = 0 then s.decide d
  else s.modifyDie d fun x => x.withState (.halted (some (s.now + s.settings.holdOff)))

/-- What the die controller does next, once the effects of a happening are complete: the head of the read queue is
sent on a READY or HALTED die; otherwise the work queue is served or the hold-off timer started; and a running
operation is halted for a waiting read once the guard has passed (R79, R80, R81, R93, R98). -/
def State.arbitrate (s : State) (d : DieIx) : State :=
  match (s.die d).state, (s.die d).readQueue with
  | .ready, e :: rest => s.sendRead d e rest
  | .ready, [] => s.serveWork d
  | .halted _, e :: rest => s.sendRead d e rest
  | .halted none, [] => s.startHoldOff d
  | .programming p due none, _ :: _ => s.sendHalt d (.program p) due
  | .erasing e due none, _ :: _ => s.sendHalt d (.erase e) due
  | _, _ => s

/-- Every die controller acts, in increasing die position (R79). -/
def State.settle (s : State) : State := dieIndices.foldl State.arbitrate s

/-! ## After an operation -/

/-- The state a die takes when it has become idle: READY, or HALTED while its halt context holds an entry (R76,
R82). -/
def Die.idle (x : Die) : Die := x.withState (if x.context.isEmpty then .ready else .halted none)

/-- After an interleaved program's end the hold-off decision is taken at once where no read waits (R103). -/
def State.decideAtOnce (s : State) (d : DieIx) : State :=
  match (s.die d).state, (s.die d).readQueue with
  | .halted none, [] => s.decide d
  | _, _ => s

/-! ## OFFLINE -/

/-- The host requests of a list that are for the die. -/
def State.ofDie (s : State) (d : DieIx) (ts : List Tag) : List Tag := ts.filter (s.isForDie d)

/-- The operations of a die that have not finished: the one running or being halted, and those of its halt context
(R86, R176). -/
def Die.unfinished (x : Die) : List ArrayOp :=
  (match x.state with
    | .programming p _ _ => [.program p]
    | .erasing e _ _ => [.erase e]
    | .halting op _ _ => [op]
    | _ => [])
    ++ x.context.map ContextEntry.op

/-- The block of an operation. -/
def ArrayOp.block : ArrayOp → BlockIx
  | .program p => p.block
  | .erase e => e.block

/-- The blocks of the die's unfinished operations become FAILED, their clean flags cleared (R86 step 3). -/
def State.failUnfinished (s : State) (d : DieIx) : State :=
  (s.die d).unfinished.foldl
    (fun s op => s.modifyBlock (globalBlock d op.block) fun b => { b with health := .failed, clean := false }) s

/-- The host reads of a die, the outstanding one first, in queue order (R74, R87). -/
def Die.hostReads (x : Die) : List Tag :=
  ((match x.state with
    | .reading e _ => [e]
    | _ => []) ++ x.readQueue).filterMap ReadEntry.tag?

/-- The tags of the hold lists of the die's blocks, block by block in increasing number (R87). -/
def State.heldForDie (s : State) (d : DieIx) : List Tag :=
  ((s.blocks.toList.drop (d.val * 256)).take 256).flatMap BlockRecord.holdList

/-- Settling step 1 of a die that goes OFFLINE: its host reads, the requests held for its blocks and those waiting
for a buffer for its lines are answered FAULT(DIE_OFFLINE) (R87). -/
def State.faultWaiting (s : State) (d : DieIx) : State :=
  let reads := (s.die d).hostReads
  let held := s.heldForDie d
  let waiting := s.ofDie d s.waitList
  let answered := s.answerAll (reads ++ held ++ waiting) (.fault .dieOffline)
  { (answered.mapBlocks fun g b => if g / 256 = d.val then { b with holdList := [] } else b) with
    waitList := answered.waitList.filter fun t => !waiting.contains t }

/-- A block's admitted erase ends without an END: its erase state returns to NONE (R87, R123). -/
def State.endErase (s : State) (d : DieIx) (e : EraseOp) : State :=
  s.modifyBlock (globalBlock d e.block) fun b => { b with erase := .none }

/-- The requests of the block lose their pre-erase marks (R40, R114). -/
def State.clearMarks (s : State) (g : GlobalBlock) : State :=
  { s with
    table := mapIndexed
      (fun _ r => r.map fun (x : Request) => if x.line.global = g then { x with mark := false } else x) s.table }

/-- An admitted erase of a die that went OFFLINE completes as FAILED (R87, R123). -/
def State.failErase (d : DieIx) (s : State) (e : EraseOp) : State :=
  ((s.endErase d e).clearMarks (globalBlock d e.block)).complete (eraseCompletion d e .failed)

/-- A limit of a die runs out: the die goes OFFLINE and DIE_TIMEOUT is recorded; the blocks of its unfinished
operations fail; the requests that wait on it are faulted, its buffers discarded, its erases completed FAILED; and
the freed buffers are counted and handed over (R86, R87). -/
def State.goOffline (s : State) (d : DieIx) (report : FaultBody) : State :=
  let x := s.die d
  let failed := (s.writeFault report).failUnfinished d
  let faulted := failed.faultWaiting d
  let emptied := faulted.modifyDie d fun y =>
    { y with state := .offline none, readQueue := y.readQueue.filter fun e => e.tag?.isNone, context := [], interleave := 0 }
  let discarded := emptied.discardAll .dieOffline fun _ b => b.inDie d
  let cleared := discarded.modifyDie d fun y => { y with readQueue := [], workQueue := [] }
  (x.admittedErases.foldl (State.failErase d) cleared).afterFree

end Sys2Proof.Machine
end

