-- ==== Sys2Proof/WellFormed.lean ====
section
/-! DEFINITION. Which operands a command can have: the widths of the buses and the shapes of frames that the
types of `Instr` leave wider than the spec does. -/

namespace Sys2Proof

/-- A host request has 1 to 8 beats: the field is 3 bits, beats minus 1 (R138, section 11.6). -/
def beatsOk (n : Nat) : Bool := 1 ≤ n && n ≤ 8

/-- The frame is a command frame: it has a complete first byte, and that byte is not 0x00 (R151). -/
def isCommandFrame (bytes : List Byte) : Bool :=
  match bytes with
  | [] => false
  | b :: _ => b != 0

/-- The operands of the command are ones the spec gives it. -/
def Instr.wellFormed : Instr → Bool
  | .hostWrite _ _ beats => beatsOk beats.length
  | .hostRead _ _ beats => beatsOk beats
  | .commandFrame bytes _ => isCommandFrame bytes
  | .replyFrame length => 1 ≤ length
  | .malformedFrame firstByte => firstByte != 0
  | .powerOn _ _ _ => true
  | .lineReset => true
  | .rstnRelease _ => true
  | .protnAssertion => true
  | .protnRelease => true
  | .responseDelivery => true
  | .holdTimerExpiry _ => true
  | .coalesceTimerExpiry _ => true
  | .lineData _ _ => true
  | .programEndPass _ => true
  | .programEndFail _ => true
  | .eraseEndPass _ => true
  | .eraseEndFail _ => true
  | .halted _ => true
  | .resetEnd _ => true
  | .resetLimitExpiry _ => true
  | .operationLimitExpiry _ _ => true
  | .guardExpiry _ => true
  | .holdOffExpiry _ => true
  | .status => true
  | .configure _ _ _ _ _ _ => true
  | .configRead => true
  | .regionWrite _ _ _ _ _ _ _ => true
  | .regionRead _ => true
  | .lock _ _ _ => true
  | .ceiling _ _ => true
  | .blockQuery _ => true
  | .bufferQuery _ => true
  | .dieQuery _ => true
  | .erase _ => true
  | .flush _ => true
  | .dieRestart _ => true
  | .faultRead => true
  | .faultClear => true
  | .completionRead => true
  | .channelReset => true

end Sys2Proof
end

