-- ==== Sys2Proof/Machine/HostPort.lean ====
section
/-! DEFINITION. The meanings of the host port's commands: HOST_WRITE, HOST_READ, RESPONSE_DELIVERY,
HOLD_TIMER_EXPIRY, and COALESCE_TIMER_EXPIRY of the pool (chapters 8 and 1). -/

namespace Sys2Proof.Machine

open Sys2Proof

/-- The port checks: the detail of the first one that fails (R140). -/
def State.portCheck (s : State) (t : Tag) (a : BitVec 27) (beats : Nat) : Option FaultDetail :=
  if s.fittedSize ≤ a.toNat then some .address
  else if a.toNat % 8 ≠ 0 ∨ 64 < (positionOfAddress a).val + 8 * beats then some .align
  else if (s.request t).isSome then some .duplicateTag
  else none

/-- The point at which the hold timer of a request accepted now runs out; with a hold limit of 0 none runs
(R144). -/
def State.holdPoint (s : State) : Option Nat :=
  if s.settings.holdLimit = 0 then none else some (s.now + s.settings.holdLimit)

/-- The number of a request accepted now in the order of acceptance: above that of every outstanding request (R138,
R143). -/
def State.nextOrder (s : State) : Nat :=
  tagIndices.foldr (fun t n => max ((s.request t).elim 0 fun r => r.order + 1) n) 0

/-- The entry a request takes in the table at its acceptance (R141). -/
def State.accepted (s : State) (a : BitVec 27) (p : Payload) : Request :=
  ⟨p, lineOfAddress a, positionOfAddress a, s.holdPoint, none, false, s.nextOrder⟩

/-- An admitted write takes its course at its acceptance. A refused opening leaves its buffer FREE, and that buffer
is handed over (R11, R25). -/
def State.takeFresh (s : State) (t : Tag) (c : Course) : State :=
  match c with
  | .successor _ _ => (s.take t c).afterFree
  | .openClean _ => (s.take t c).afterFree
  | _ => s.take t c

/-- An accepted write that has passed the port checks goes through admission, and if it is admitted through the pool
step, after which the die controllers act (R36, R79). -/
def State.writeArrives (s : State) (t : Tag) (r : Request) : State :=
  match s.verdict r with
  | .answered code => s.answerPlain t code
  | .held => s.joinHold r.line.global t
  | .admitted m => ((s.stampMode t r m).takeFresh t (s.course r.line)).settle

/-- An accepted read that has passed the port checks goes through the read steps. An array read may be sent, or lead
to a halt, in the same happening (R53, R79, R93). -/
def State.readArrives (s : State) (t : Tag) (r : Request) : State :=
  match s.readCourse r with
  | .array => (s.queueArrayRead t).arbitrate r.line.die
  | c => s.takeRead t r c

/-- The acceptance of a request: the port checks answer it at once, or it becomes outstanding (R138 to R141). While
HRDY is low nothing is accepted (R139). -/
def State.acceptRequest (s : State) (t : Tag) (a : BitVec 27) (p : Payload)
    (arrive : State → Tag → Request → State) : State :=
  if s.hrdy then
    match s.portCheck t a p.beats with
    | some detail => s.respond ⟨t, .fault detail, none⟩
    | none => arrive (s.setRequest t (some (s.accepted a p))) t (s.accepted a p)
  else s

/-- The request that stands on HREQ is presented: its tag, its address and what it asks for are read from the signals,
a WRITE goes on to admission and a READ to read service (R138, section 11.6). -/
def State.present (s : State) (q : HostRequestSignals) : State :=
  s.acceptRequest q.tagValue q.address q.payload
    (if q.payload.isWrite then State.writeArrives else State.readArrives)

/-- HOST_WRITE (R36, R138 to R141). -/
def execHostWrite (t : Tag) (a : BitVec 27) (beats : List Beat) (s : State) : Host.Outcome State Fault Refusal :=
  if beatsOk beats.length then .next (s.quiet.present (hostRequestSignals t a (.write beats)))
  else .refused .illFormedRequest

/-- HOST_READ (R53, R138 to R141). -/
def execHostRead (t : Tag) (a : BitVec 27) (beats : Nat) (s : State) : Host.Outcome State Fault Refusal :=
  if beatsOk beats then .next (s.quiet.present (hostRequestSignals t a (.read beats)))
  else .refused .illFormedRequest

/-- RESPONSE_DELIVERY: the head of the response list is delivered on HRSP and leaves the list (R148). -/
def execResponseDelivery (s : State) : Host.Outcome State Fault Refusal :=
  match s.responses with
  | [] => .next s.quiet
  | r :: rest => .next { s.quiet with responses := rest, out := { Outputs.none with hrsp := some r.signals } }

/-- A buffer whose held list no longer holds the tag. -/
def Buffer.dropHeld (b : Buffer) (t : Tag) : Buffer :=
  match b with
  | .loading l n h => .loading l n (h.filter (· != t))
  | x => x

/-- A die state whose outstanding read entry no longer names the request (R65, R75). -/
def DieState.dropTag (st : DieState) (t : Tag) : DieState :=
  match st with
  | .reading (.hostRead b l (some t')) due => .reading (.hostRead b l (if t' = t then none else some t')) due
  | x => x

/-- A die controller from whose read queue the request's unsent entry is withdrawn, and whose outstanding entry no
longer names it (R65, R75). -/
def Die.dropTag (x : Die) (t : Tag) : Die :=
  { x with state := x.state.dropTag t, readQueue := x.readQueue.filter fun e => e.tag? != some t }

/-- A request leaves the place in which it stands (R145). -/
def State.leavePlace (s : State) (t : Tag) (r : Request) : State :=
  ((({ s with buffers := mapIndexed (fun _ b => b.dropHeld t) s.buffers }).leaveWait t).modifyBlock r.line.global
    fun b => { b with holdList := b.holdList.filter (· != t) }).modifyDie r.line.die fun x => x.dropTag t

/-- The hold timer of an outstanding request runs out: it leaves its place and is answered TIMEOUT, and a write that
leaves the wait list lets the reads behind it go (R145, R26). -/
def State.timeOut (s : State) (t : Tag) (r : Request) : State :=
  let answered := (s.leavePlace t r).answerPlain t .timeout
  if r.payload.isWrite && s.waitList.contains t then answered.releaseReads r.line else answered

/-- HOLD_TIMER_EXPIRY (R145). Where no hold timer runs under the tag nothing runs out. -/
def execHoldTimerExpiry (t : Tag) (s : State) : Host.Outcome State Fault Refusal :=
  match s.request t with
  | some r =>
    match r.holdDue with
    | some due => .next (((s.quiet.reach due).timeOut t r).settle)
    | none => .next s.quiet
  | none => .next s.quiet

/-- COALESCE_TIMER_EXPIRY: a FILLING buffer is posted (R13). Where the buffer's timer is stopped nothing runs out. -/
def execCoalesceTimerExpiry (i : BufIx) (s : State) : Host.Outcome State Fault Refusal :=
  match (s.buffer i).coalesceDue? with
  | some due => .next (((s.quiet.reach due).post i).settle)
  | none => .next s.quiet

end Sys2Proof.Machine
end

