-- ==== Sys2Proof/Machine/Protection.lean ====
section
/-! DEFINITION. Block protection: the meanings of the two PROTN rows, and what LOCK and CEILING do (chapter 7). -/

namespace Sys2Proof.Machine

open Sys2Proof

/-- The ceiling of the die that holds the global block numbered `g`. -/
def State.ceilingOver (s : State) (g : Nat) : Nat := (s.ceilings[Fin.ofNat 4 (g / 256)]).val

/-- Every pinned OPEN block becomes SHUT, on every fitted die (R131). -/
def State.shutPinned (s : State) : State :=
  s.mapBlocks fun g b =>
    if g / 256 < s.fittedDies ∧ g % 256 < s.ceilingOver g then { b with lock := .shut } else b

/-- PROTN_ASSERTION: PROTN goes low. While RSTN is low the change is not taken (R127); where the recorded level is
asserted already there is no change to take. -/
def execProtnAssertion (s : State) : Host.Outcome State Fault Refusal :=
  if s.rstnLow ∨ s.protn then .next { s.quiet with protnPin := true }
  else .next { s.quiet.shutPinned with protnPin := true, protn := true }

/-- PROTN_RELEASE: PROTN goes high; no lock and no ceiling changes (R132). -/
def execProtnRelease (s : State) : Host.Outcome State Fault Refusal :=
  if s.rstnLow then .next { s.quiet with protnPin := false }
  else .next { s.quiet with protnPin := false, protn := false }

/-- Every block of the range takes the lock state (R128). -/
def State.setLocks (s : State) (first last : GlobalBlock) (k : Lock) : State :=
  s.mapBlocks fun g b => if first.val ≤ g ∧ g ≤ last.val then { b with lock := k } else b

/-- A block of the range is pinned (R128 check 3). -/
def State.pinnedWithin (s : State) (first last : GlobalBlock) : Bool :=
  (List.finRange 1024).any fun g => first.val ≤ g.val && g.val ≤ last.val && s.pinned g

/-- The die's ceiling takes the value; while PROTN is asserted, the blocks it newly pins become SHUT (R130). -/
def State.setCeiling (s : State) (d : DieIx) (v : Fin 257) : State :=
  let old := (s.ceilings[d]).val
  let shut :=
    if s.protn then
      s.mapBlocks fun g b =>
        if g / 256 = d.val ∧ old ≤ g % 256 ∧ g % 256 < v.val then { b with lock := .shut } else b
    else s
  { shut with ceilings := s.ceilings.set d v }

end Sys2Proof.Machine
end

