-- ==== Sys2Proof/Machine/ArrayLink.lean ====
section
/-! DEFINITION. The meanings of what a die sends and of what its timers bring: LINE_DATA, PROGRAM_END, ERASE_END,
HALTED, RESET_END, and the expiries of the limits, the guard and the hold-off (chapters 4, 5 and 6). A message the
controller is not waiting for is dropped, and a timer that does not run does not run out (R69). -/

namespace Sys2Proof.Machine

open Sys2Proof

/-! ## LINE_DATA -/

/-- One request of the held list at base arrival: a write is judged against the base, a read is answered from the
image as it stands (R9). -/
def State.baseStep (i : BufIx) (s : State) (t : Tag) : State :=
  if s.isWrite t then s.judge i t
  else
    match (s.buffer i).body? with
    | some body => s.answerRead t body.image
    | none => s

/-- The base of a LOADING buffer arrives: its held list is processed in order; with something merged it is FILLING,
and posted if a cause holds; otherwise it returns to FREE (R9). -/
def State.baseArrival (s : State) (i : BufIx) (data : LineImage) : State :=
  match s.buffer i with
  | .loading l n held =>
    let done := held.foldl (State.baseStep i) (s.setBuffer i (.filling l n (.fresh data) none none))
    if 0 < (done.buffer i).writtenCount then done.postIfCaused i else (done.freeBuffer i).afterFree
  | _ => s

/-- LINE_DATA's bytes serve the outstanding entry: a base load, a host read, or a host read already answered TIMEOUT,
whose bytes are dropped (R76). -/
def State.deliver (s : State) (data : LineImage) : ReadEntry → State
  | .baseLoad _ _ i => s.baseArrival i data
  | .hostRead _ _ (some t) => s.answerRead t data
  | .hostRead _ _ none => s

/-- LINE_DATA (R76). -/
def execLineData (d : DieIx) (data : LineImage) (s : State) : Host.Outcome State Fault Refusal :=
  match (s.die d).state with
  | .reading e _ => .next (((s.quiet.modifyDie d Die.idle).deliver data e).settle)
  | _ => .next s.quiet

/-! ## PROGRAM_END -/

/-- The program that is running or being halted (R82). -/
def Die.runningProgram (x : Die) : Option ProgramOp :=
  match x.state with
  | .programming p _ _ => some p
  | .halting (.program p) _ _ => some p
  | _ => none

/-- The erase that is running or being halted (R82). -/
def Die.runningErase (x : Die) : Option EraseOp :=
  match x.state with
  | .erasing e _ _ => some e
  | .halting (.erase e) _ _ => some e
  | _ => none

/-- PROGRAM_END PASS at the pool: the buffer becomes FREE, and is counted and handed over (R18). -/
def State.programPassed (s : State) (i : BufIx) : State := (s.freeBuffer i).afterFree

/-- PROGRAM_END_PASS (R18, R82, R83, R103). -/
def execProgramEndPass (d : DieIx) (s : State) : Host.Outcome State Fault Refusal :=
  match (s.die d).runningProgram with
  | some p => .next ((((s.quiet.modifyDie d Die.idle).programPassed p.buffer).decideAtOnce d).settle)
  | none => .next s.quiet

/-- A final FAIL: LINE_LOST, the block FAILED, every other buffer of the block discarded, and the failing buffer
FREE (R20). -/
def State.lineLost (s : State) (i : BufIx) (l : LineAddr) (body : LineBody) : State :=
  let recorded := s.writeFault (.lineLost .programFail l (Machine.writtenCount body.written))
  let failed := recorded.modifyBlock l.global fun b => { b with health := .failed }
  let discarded := failed.discardAll .blockFailed fun j b => j != i && b.inBlock l.global
  (discarded.freeBuffer i).afterFree

/-- PROGRAM_END FAIL at the pool: on a first attempt PROGRAM_RETRIED is recorded and the retry queued at the head of
the die's work queue; on the second the line is lost (R19, R20). -/
def State.programFailed (s : State) (i : BufIx) : State :=
  match s.buffer i with
  | .programming l n body a =>
    if a = 0 then
      ((s.setBuffer i (.programming l n body 1)).writeFault (.programRetried l)).modifyDie l.die fun x =>
        { x with workQueue := .program i :: x.workQueue }
    else s.lineLost i l body
  | _ => s

/-- PROGRAM_END_FAIL (R19, R20, R82, R83, R103). -/
def execProgramEndFail (d : DieIx) (s : State) : Host.Outcome State Fault Refusal :=
  match (s.die d).runningProgram with
  | some p => .next ((((s.quiet.modifyDie d Die.idle).programFailed p.buffer).decideAtOnce d).settle)
  | none => .next s.quiet

/-! ## ERASE_END -/

/-- The die after an ERASE_END: idle, with its interleave count at 0 (R84). -/
def Die.afterErase (x : Die) : Die := { x.idle with interleave := 0 }

/-- ERASE_END PASS at the erase service: the block becomes HEALTHY, clean and NONE, the completion is recorded DONE,
and the hold list, taken whole, is released in arrival order (R119). -/
def State.erasePassed (s : State) (d : DieIx) (e : EraseOp) : State :=
  let g := globalBlock d e.block
  let released := (s.block g).holdList
  let block := s.modifyBlock g fun b => { b with health := .healthy, clean := true, erase := .none, holdList := [] }
  let recorded := (block.clearMarks g).complete (eraseCompletion d e .done)
  (released.foldl State.process recorded).afterFree

/-- ERASE_END_PASS (R82, R84, R119). -/
def execEraseEndPass (d : DieIx) (s : State) : Host.Outcome State Fault Refusal :=
  match (s.die d).runningErase with
  | some e => .next (((s.quiet.modifyDie d Die.afterErase).erasePassed d e).settle)
  | none => .next s.quiet

/-- ERASE_END FAIL at the erase service: the block becomes FAILED and NONE, ERASE_FAIL and the completion FAILED are
recorded, held writes are answered FAULT(BLOCK_FAILED) and held reads join the die read queue (R120). -/
def State.eraseFailed (s : State) (d : DieIx) (e : EraseOp) : State :=
  let g := globalBlock d e.block
  let held := (s.block g).holdList
  let block := s.modifyBlock g fun b => { b with health := .failed, clean := false, erase := .none, holdList := [] }
  let recorded := ((block.clearMarks g).writeFault (.eraseFail d e.block)).complete (eraseCompletion d e .failed)
  held.foldl (State.settleHeld .blockFailed) recorded

/-- ERASE_END_FAIL (R82, R84, R120). -/
def execEraseEndFail (d : DieIx) (s : State) : Host.Outcome State Fault Refusal :=
  match (s.die d).runningErase with
  | some e => .next (((s.quiet.modifyDie d Die.afterErase).eraseFailed d e).settle)
  | none => .next s.quiet

/-! ## HALTED -/

/-- The die after HALTED: the operation is pushed with its remaining budget, and a fresh erase halt sets the
interleave count to 0 (R95, R96, R104). -/
def Die.pushHalted (x : Die) (op : ArrayOp) (budget : Nat) : Die where
  state := .halted none
  readQueue := x.readQueue
  workQueue := x.workQueue
  context := x.context ++ [⟨op, budget⟩]
  interleave :=
    match op with
    | .erase _ => 0
    | .program _ => x.interleave

/-- HALTED (R95, R96). -/
def execHalted (d : DieIx) (s : State) : Host.Outcome State Fault Refusal :=
  match (s.die d).state with
  | .halting op due _ => .next ((s.quiet.modifyDie d fun x => x.pushHalted op (due - s.now)).settle)
  | _ => .next s.quiet

/-! ## RESET_END and the reset limit -/

/-- Start-up or a channel reset ends in the happening in which the last fitted die leaves STARTING (R73, R178). -/
def State.endPhase (s : State) : State :=
  if s.fittedIndices.any fun d => (s.die d).isStarting then s else { s with mode := .running }

/-- The completion record of a die restart (R89). -/
def restartCompletion (d : DieIx) (t : Ticket) (o : TicketOutcome) : Completion := ⟨t, .dieRestart, o, .die d, none⟩

/-- RESET_END (R73, R89, R90, R178). -/
def execResetEnd (d : DieIx) (s : State) : Host.Outcome State Fault Refusal :=
  match (s.die d).state with
  | .starting (some _) => .next (((s.quiet.modifyDie d fun x => x.withState .ready).endPhase).arbitrate d)
  | .offline (some (t, _)) =>
    .next ((s.quiet.setDie d (Die.empty .ready)).complete (restartCompletion d t .done))
  | _ => .next s.quiet

/-- RESET_LIMIT_EXPIRY (R73, R89, R90, R178). -/
def execResetLimitExpiry (d : DieIx) (s : State) : Host.Outcome State Fault Refusal :=
  match (s.die d).state with
  | .starting (some due) =>
    .next ((((s.quiet.reach due).modifyDie d fun x => x.withState (.offline none)).writeFault
      (.dieTimeout .reset d none none)).endPhase)
  | .offline (some (t, due)) =>
    .next ((((s.quiet.reach due).modifyDie d fun x => x.withState (.offline none)).writeFault
      (.dieTimeout .reset d none none)).complete (restartCompletion d t .failed))
  | _ => .next s.quiet

/-! ## Operation limits -/

/-- The line of a program, none for an erase. -/
def ArrayOp.line? : ArrayOp → Option LineIx
  | .program p => some p.line
  | .erase _ => none

/-- The limit of this kind that runs on a die, where one does: the point at which it runs out, and the DIE_TIMEOUT
record its expiry writes (R85, R86). -/
def Die.limit (x : Die) (d : DieIx) (k : LimitKind) : Option (Nat × FaultBody) :=
  match x.state, k with
  | .reading e due, .read => some (due, .dieTimeout .read d (some e.place.1) (some e.place.2))
  | .programming p due _, .program => some (due, .dieTimeout .program d (some p.block) (some p.line))
  | .erasing e due _, .erase => some (due, .dieTimeout .erase d (some e.block) none)
  | .halting (.program p) due _, .program => some (due, .dieTimeout .program d (some p.block) (some p.line))
  | .halting (.erase e) due _, .erase => some (due, .dieTimeout .erase d (some e.block) none)
  | .halting op _ haltDue, .halt => some (haltDue, .dieTimeout .halt d (some op.block) op.line?)
  | _, _ => none

/-- OPERATION_LIMIT_EXPIRY (R86, R87). -/
def execOperationLimitExpiry (d : DieIx) (k : LimitKind) (s : State) : Host.Outcome State Fault Refusal :=
  match (s.die d).limit d k with
  | some (due, report) => .next (((s.quiet.reach due).goOffline d report).settle)
  | none => .next s.quiet

/-! ## Guard and hold-off -/

/-- The guard timer of a die, where it runs (R92). -/
def Die.guardDue? (x : Die) : Option Nat :=
  match x.state with
  | .programming _ _ g => g
  | .erasing _ _ g => g
  | _ => none

/-- The die once its guard has passed (R92). -/
def Die.guardPassed (x : Die) : Die :=
  match x.state with
  | .programming p due _ => x.withState (.programming p due none)
  | .erasing e due _ => x.withState (.erasing e due none)
  | _ => x

/-- GUARD_EXPIRY: HALT is sent if an unsent read waits (R93). -/
def execGuardExpiry (d : DieIx) (s : State) : Host.Outcome State Fault Refusal :=
  match (s.die d).guardDue? with
  | some due => .next (((s.quiet.reach due).modifyDie d Die.guardPassed).arbitrate d)
  | none => .next s.quiet

/-- HOLD_OFF_EXPIRY: the hold-off decision is taken (R99). -/
def execHoldOffExpiry (d : DieIx) (s : State) : Host.Outcome State Fault Refusal :=
  match (s.die d).state with
  | .halted (some due) => .next (((s.quiet.reach due).modifyDie d fun x => x.withState (.halted none)).decide d)
  | _ => .next s.quiet

end Sys2Proof.Machine
end

