-- ==== Sys2Proof/Machine/Resets.lean ====
section
/-! DEFINITION. The meanings of POWER_ON, LINE_RESET and RSTN_RELEASE, and the beginning of a channel reset
(chapter 10). -/

namespace Sys2Proof.Machine

open Sys2Proof

/-- The die controllers right after a reset: each fitted one STARTING with nothing queued (R72). Its reset limit runs
from the RESET_DIE of start-up, and no die is sent anything while RSTN is low (R73). -/
def startingDies (fitted : Nat) (resetDue : Option Nat) : Vector Die 4 :=
  mapIndexed (fun d x => if d < fitted then Die.empty (.starting resetDue) else x)
    (Vector.replicate 4 (Die.empty .absent))

/-- Every piece of state at its power-on value, but for the queue of commands, the pins and the sampled strap, which
are given; the fault log is empty (R180). -/
def State.poweredOn (s : State) (dcount : BitVec 2) (protnLow rstnLow : Bool) : State where
  now := 0
  mode := .starting
  rstnLow := rstnLow
  dcount := dcount
  protnPin := protnLow
  protn := protnLow
  settings := Settings.initial
  table := Vector.replicate 16 none
  responses := []
  regions := Vector.replicate 8 RegionEntry.initial
  buffers := Vector.replicate 12 .free
  openCounter := 0
  waitList := []
  flushes := []
  blocks := Vector.replicate 1024 BlockRecord.initial
  dies := startingDies (dcount.toNat + 1) none
  ceilings := Vector.replicate 4 0
  reply := Reply.initial
  executing := none
  ticketCounter := 0
  completions := []
  faultLog := []
  overflow := false
  sequence := 0
  out := Outputs.none
  pending := s.pending

/-- Start-up begins: every fitted die is sent RESET_DIE, becomes STARTING and starts its reset limit (R73). -/
def State.startUp (s : State) : State :=
  s.fittedIndices.foldl (fun s d => s.send d .resetDie)
    { s with mode := .starting, dies := startingDies s.fittedDies (some (s.now + Config.resetLimit)) }

/-- POWER_ON: every piece of state takes its starting value; start-up begins at once where RSTN is high, and otherwise
at RSTN_RELEASE (R73, R180). -/
def execPowerOn (dcount : BitVec 2) (protnLow rstnLow : Bool) (s : State) : Host.Outcome State Fault Refusal :=
  if rstnLow then .next (s.poweredOn dcount protnLow true)
  else .next (s.poweredOn dcount protnLow false).startUp

/-- LINE_RESET: the power-on values, but the fault log, its overflow mark and its sequence counter are kept (R180). The
strap is sampled when RSTN returns high (R71). -/
def execLineReset (s : State) : Host.Outcome State Fault Refusal :=
  .next { s.poweredOn s.dcount s.protnPin true with
    faultLog := s.faultLog, overflow := s.overflow, sequence := s.sequence, protn := s.protn }

/-- RSTN_RELEASE: DCOUNT is sampled, the starting PROTN level recorded, and start-up begins (R71, R73, R127). Where
RSTN is high already it does not return high. -/
def execRstnRelease (dcount : BitVec 2) (s : State) : Host.Outcome State Fault Refusal :=
  if s.rstnLow then .next { s.quiet with rstnLow := false, dcount := dcount, protn := s.protnPin }.startUp
  else .next s.quiet

/-! ## The beginning of a channel reset -/

/-- The tags of the outstanding requests, in increasing order. -/
def State.outstandingTags (s : State) : List Tag := tagIndices.filter fun t => (s.request t).isSome

/-- The admitted erases of the part, die by die, the one that is ERASING first on each (R175). -/
def State.allErases (s : State) : List (DieIx × EraseOp) :=
  s.fittedIndices.flatMap fun d => (s.die d).admittedErases.map fun e => (d, e)

/-- The die restarts in progress, in increasing die position (R175). -/
def State.allRestarts (s : State) : List (DieIx × Ticket) :=
  s.fittedIndices.filterMap fun d => (s.die d).restartTicket.map fun t => (d, t)

/-- The buffers whose discard a RESET_DISCARD record counts: those FILLING, POSTED or PROGRAMMING (R174). -/
def State.countedBuffers (s : State) : List BufIx := bufferIndices.filter fun i => (s.buffer i).body?.isSome

/-- The RESET_DISCARD record of a channel reset that begins now (R174). -/
def State.resetDiscard (s : State) : FaultBody :=
  .resetDiscard ((s.countedBuffers.map fun i => (s.buffer i).writtenCount).sum) s.countedBuffers.length
    s.outstandingTags.length s.allErases.length

/-- R174: RESETTING, every outstanding request answered ABORTED in increasing tag order, every buffer discarded, and
one RESET_DISCARD record written. -/
def State.clearTraffic (s : State) : State :=
  ({ s.answerAll s.outstandingTags .aborted with
      mode := .resetting, buffers := Vector.replicate 12 .free, waitList := [] }).writeFault s.resetDiscard

/-- R175: every erase, flush and die restart in progress completes CANCELLED, in that order. -/
def State.cancelTickets (s : State) : State :=
  { s with
    completions := s.completions
      ++ (s.allErases.map fun x => eraseCompletion x.1 x.2 .cancelled)
      ++ (s.flushes.map fun f => f.completion .cancelled)
      ++ (s.allRestarts.map fun x => restartCompletion x.1 x.2 .cancelled)
    flushes := [] }

/-- R90 and R176 for one die: OFFLINE, it stays so with any restart ended; otherwise the blocks of its unfinished
operations fail, it is emptied and sent RESET_DIE, and it becomes STARTING. -/
def State.resetDie (s : State) (d : DieIx) : State :=
  if (s.die d).isOffline then s.setDie d (Die.empty (.offline none))
  else
    ((s.failUnfinished d).setDie d (Die.empty (.starting (some (s.now + Config.resetLimit))))).send d .resetDie

/-- R176: every fitted die is reset, and every block takes erase state NONE, a clear clean flag and an empty hold
list. -/
def State.resetDies (s : State) : State :=
  (s.fittedIndices.foldl State.resetDie s).mapBlocks fun _ b =>
    { b with erase := .none, clean := false, holdList := [] }

/-- The beginning of a channel reset, and its end where no die was reset (R174 to R178). -/
def State.beginChannelReset (s : State) : State := s.clearTraffic.cancelTickets.resetDies.endPhase

end Sys2Proof.Machine
end

