-- ==== Sys2Proof/Machine/Management.lean ====
section
/-! DEFINITION. The management port: COMMAND_FRAME, REPLY_FRAME and the completions of the commands (chapters 9
and 11). -/

namespace Sys2Proof.Machine

open Sys2Proof

/-! ## Taking and completing a command -/

/-- What a command's completion puts into the stored reply beside its command byte (R155). -/
structure Answer where
  status : ReplyStatus
  fields : List Byte
deriving DecidableEq, Repr

/-- A refusal with one reason and no field (R155, R185). -/
def refusal (r : Reason) : Answer := ⟨.refused r, []⟩

/-- DONE without reply fields. -/
def doneBare : Answer := ⟨.done, []⟩

/-- A command frame is taken: its command is in execution, and the stored reply is NOT_READY with a clear dropped mark
(R152, R154). -/
def State.takeCommand (s : State) (c : MgmtCommand) : State :=
  { s with
    reply := ⟨c.commandByte, .notReady, false, []⟩
    executing := some ⟨c, s.now + Config.commandBound⟩ }

/-- A command frame that ends while a command is in execution is discarded, and the stored reply gains the dropped
mark (R154). -/
def State.dropFrame (s : State) : State := { s with reply := { s.reply with dropped := true } }

/-- The command completes: the stored reply takes its status and fields and keeps the dropped mark, and no command is
in execution (R152, R154). -/
def State.conclude (s : State) (c : MgmtCommand) (a : Answer) : State :=
  { s with reply := ⟨c.commandByte, a.status, s.reply.dropped, a.fields⟩, executing := none }

/-- The completion happening of a command (R152). The row of a command is its completion where the command is in
execution. Where none is, its frame is taken and completes with nothing between. Where another is, the row is a
frame that is discarded (R154). While RSTN is low the port takes nothing (R151). -/
def State.runCommand (s : State) (c : MgmtCommand) (act : State → State × Answer) : State :=
  if s.rstnLow then s
  else
    match s.executing with
    | none => (act (s.takeCommand c)).1.conclude c (act (s.takeCommand c)).2
    | some x => if x.command = c then (act s).1.conclude c (act s).2 else s.dropFrame

/-- A command that is refused with STARTING or RESETTING during start-up and channel reset (R156). -/
def State.unlessBusy (act : State → State × Answer) (s : State) : State × Answer :=
  match s.busyReason with
  | some r => (s, refusal r)
  | none => act s

/-- MDO over a reply frame of this length: the stored reply is shifted out and no state changes (R153, R185). -/
def State.shiftReply (s : State) (length : Nat) : State :=
  if s.rstnLow then s else { s with out := { s.out with mdo := s.reply.shiftOut length } }

/-- A command frame ends: it is taken, or discarded while a command is in execution (R151, R152, R154). A frame with no
complete byte has no effect, and a frame whose first byte is 0x00 is a reply frame (R151). -/
def State.frameEnds (s : State) (bytes : List Byte) (partialByte : Bool) : State :=
  match bytes with
  | [] => s
  | b :: args =>
    if b = 0 then s.shiftReply (b :: args).length
    else if s.rstnLow then s
    else
      match s.executing with
      | none => s.takeCommand (parseFrame b args partialByte)
      | some _ => s.dropFrame

/-- COMMAND_FRAME (R151, R152, R154, R183). -/
def execCommandFrame (bytes : List Byte) (partialByte : Bool) (s : State) : Host.Outcome State Fault Refusal :=
  .next (s.quiet.frameEnds bytes partialByte)

/-- REPLY_FRAME (R153, R185). -/
def execReplyFrame (length : Nat) (s : State) : Host.Outcome State Fault Refusal := .next (s.quiet.shiftReply length)

/-- MALFORMED_FRAME: REFUSED(BAD_COMMAND), with no check made (R183). A frame whose first byte is 0x00 is no command
frame. -/
def execMalformedFrame (firstByte : Byte) (s : State) : Host.Outcome State Fault Refusal :=
  if firstByte = 0 then .next s.quiet
  else .next (s.quiet.runCommand (.malformed firstByte) fun s => (s, refusal .badCommand))

/-! ## Queries -/

/-- The reply fields of STATUS (R157, section 11.3). -/
def State.statusFields (s : State) : List Byte :=
  [s.mode.code, byte s.fittedDies]
    ++ dieIndices.map (fun d => (s.die d).state.code)
    ++ [byte (s.countBuffers Buffer.isFree), byte (s.countBuffers Buffer.isLoading),
        byte (s.countBuffers Buffer.isFilling), byte (s.countBuffers Buffer.isPosted),
        byte (s.countBuffers Buffer.isProgramming), byte s.waitList.length, byte s.faultLog.length,
        byte (flagBit s.overflow 0 + flagBit s.protn 1), byte s.completions.length,
        byte s.outstandingTickets.length]

/-- STATUS (R157). -/
def execStatus (s : State) : Host.Outcome State Fault Refusal :=
  .next (s.quiet.runCommand .status fun s => (s, ⟨.done, s.statusFields⟩))

/-- The fitted global block of a 16-bit field: BAD_ARGUMENT otherwise (R111, R158). -/
def State.fittedBlock (s : State) (w : BitVec 16) : Option GlobalBlock :=
  match blockOfWord w with
  | some g => if s.fitted (dieOf g) then some g else none
  | none => none

/-- The fitted die of a byte. -/
def State.fittedDie (s : State) (b : Byte) : Option DieIx :=
  match dieOfByte b with
  | some d => if s.fitted d then some d else none
  | none => none

/-- The reply fields of BLOCK_QUERY (R158, section 11.3). -/
def State.blockFields (s : State) (g : GlobalBlock) : List Byte :=
  let r := s.block g
  let holders := bufferIndices.filter fun i => (s.buffer i).inBlock g
  [byte (flagBit (r.lock == .opened) 0 + flagBit (s.pinned g) 1 + flagBit (r.health == .failed) 2 + flagBit r.clean 3),
    r.erase.code, byte r.holdList.length, byte holders.length] ++ holders.map fun i => byte i.val

/-- BLOCK_QUERY (R158). -/
def execBlockQuery (block : BitVec 16) (s : State) : Host.Outcome State Fault Refusal :=
  .next (s.quiet.runCommand (.blockQuery block) fun s =>
    match s.fittedBlock block with
    | some g => (s, ⟨.done, s.blockFields g⟩)
    | none => (s, refusal .badArgument))

/-- The reply fields of BUFFER_QUERY (R158, section 11.3). -/
def Buffer.queryFields (b : Buffer) : List Byte :=
  match b.line? with
  | none => [b.stateCode, 0, 0, 0, 0, 0, 0, 0]
  | some l =>
    [b.stateCode, byte (1 + flagBit b.predecessor?.isSome 1), byte l.die.val, byte l.block.val]
      ++ twoBytes l.line.val ++ [byte b.writtenCount, byte ((b.predecessor?.map Fin.val).getD 0)]

/-- The buffer index of a byte. -/
def bufferOfByte (b : Byte) : Option BufIx := if h : b.toNat < 12 then some ⟨b.toNat, h⟩ else none

/-- BUFFER_QUERY (R158). -/
def execBufferQuery (index : Byte) (s : State) : Host.Outcome State Fault Refusal :=
  .next (s.quiet.runCommand (.bufferQuery index) fun s =>
    match bufferOfByte index with
    | some i => (s, ⟨.done, (s.buffer i).queryFields⟩)
    | none => (s, refusal .badArgument))

/-- The reply fields of DIE_QUERY (R158, section 11.3). -/
def Die.queryFields (x : Die) : List Byte :=
  [x.state.code, byte (flagBit x.restartTicket.isSome 0), byte x.context.length, byte x.readLength,
    byte x.workQueue.length, byte x.interleave] ++ x.context.flatMap ContextEntry.encode

/-- DIE_QUERY (R158). -/
def execDieQuery (die : Byte) (s : State) : Host.Outcome State Fault Refusal :=
  .next (s.quiet.runCommand (.dieQuery die) fun s =>
    match s.fittedDie die with
    | some d => (s, ⟨.done, (s.die d).queryFields⟩)
    | none => (s, refusal .badArgument))

/-! ## Configuration and regions -/

/-- What CONFIGURE does in its completion happening (R159). -/
def State.configure (coalesce hold guard : BitVec 16) (holdOff budget enables : Byte) (s : State) : State × Answer :=
  match settingsOfFields coalesce hold guard holdOff budget enables with
  | some c => ({ s with settings := c }, doneBare)
  | none => (s, refusal .badArgument)

/-- CONFIGURE (R159). -/
def execConfigure (coalesce hold guard : BitVec 16) (holdOff budget enables : Byte) (s : State) :
    Host.Outcome State Fault Refusal :=
  .next (s.quiet.runCommand (.configure coalesce hold guard holdOff budget enables)
    (State.unlessBusy (State.configure coalesce hold guard holdOff budget enables)))

/-- CONFIG_READ (R159). -/
def execConfigRead (s : State) : Host.Outcome State Fault Refusal :=
  .next (s.quiet.runCommand .configRead fun s => (s, ⟨.done, s.settings.encode⟩))

/-- The region index of a byte. -/
def regionOfByte (b : Byte) : Option (Fin 8) := if h : b.toNat < 8 then some ⟨b.toNat, h⟩ else none

/-- The new entry's range shares a block with another valid entry's (R32 step 3). -/
def State.overlapsOther (s : State) (i : Fin 8) (e : RegionEntry) : Bool :=
  e.valid && (List.finRange 8).any fun j => j != i && (s.regions[j]).valid && e.overlaps s.regions[j]

/-- What REGION_WRITE does in its completion happening (R32). -/
def State.regionWrite (index valid : Byte) (first last : BitVec 16) (mode erasePermitted posting : Byte) (s : State) :
    State × Answer :=
  match regionOfByte index, regionOfFields valid first last mode erasePermitted posting with
  | some i, some e =>
    if s.overlapsOther i e then (s, refusal .overlap)
    else ({ s with regions := s.regions.set i e }, doneBare)
  | _, _ => (s, refusal .badArgument)

/-- REGION_WRITE (R32). -/
def execRegionWrite (index valid : Byte) (first last : BitVec 16) (mode erasePermitted posting : Byte) (s : State) :
    Host.Outcome State Fault Refusal :=
  .next (s.quiet.runCommand (.regionWrite index valid first last mode erasePermitted posting)
    (State.unlessBusy (State.regionWrite index valid first last mode erasePermitted posting)))

/-- REGION_READ (R34). -/
def execRegionRead (index : Byte) (s : State) : Host.Outcome State Fault Refusal :=
  .next (s.quiet.runCommand (.regionRead index) fun s =>
    match regionOfByte index with
    | some i => (s, ⟨.done, index :: (s.regions[i]).encode⟩)
    | none => (s, refusal .badArgument))

/-! ## Protection -/

/-- What LOCK does in its completion happening (R128). -/
def State.lock (first last : BitVec 16) (lockState : Byte) (s : State) : State × Answer :=
  match blockOfWord first, blockOfWord last, Lock.ofByte lockState with
  | some f, some l, some k =>
    if f.val ≤ l.val ∧ l.val < s.fittedDies * Config.blocksPerDie then
      if k = .opened ∧ s.protn ∧ s.pinnedWithin f l then (s, refusal .pinned)
      else (s.setLocks f l k, doneBare)
    else (s, refusal .badArgument)
  | _, _, _ => (s, refusal .badArgument)

/-- LOCK (R128). -/
def execLock (first last : BitVec 16) (lockState : Byte) (s : State) : Host.Outcome State Fault Refusal :=
  .next (s.quiet.runCommand (.lock first last lockState) (State.unlessBusy (State.lock first last lockState)))

/-- The ceiling in force that a refused CEILING carries: 0 for a die position above 3 (R129). -/
def State.ceilingInForce (s : State) (die : Byte) : Nat :=
  match dieOfByte die with
  | some d => (s.ceilings[d]).val
  | none => 0

/-- What CEILING does in its completion happening (R129, R130). -/
def State.ceiling (die : Byte) (value : BitVec 16) (s : State) : State × Answer :=
  match s.busyReason with
  | some r => (s, ⟨.refused r, twoBytes (s.ceilingInForce die)⟩)
  | none =>
    match s.fittedDie die, ceilingOfWord value with
    | some d, some v =>
      if (s.protn ∧ (s.ceilings[d]).val ≤ v.val) ∨ (s.protn = false ∧ v.val ≤ (s.ceilings[d]).val) then
        (s.setCeiling d v, ⟨.done, twoBytes v.val⟩)
      else (s, ⟨.refused .ceilingProtected, twoBytes (s.ceilings[d]).val⟩)
    | _, _ => (s, refusal .badArgument)

/-- CEILING (R129, R130). -/
def execCeiling (die : Byte) (value : BitVec 16) (s : State) : Host.Outcome State Fault Refusal :=
  .next (s.quiet.runCommand (.ceiling die value) (State.ceiling die value))

/-! ## Ticketed commands -/

/-- ACCEPTED with a ticket (R155). -/
def acceptedWith (t : Ticket) : Answer := ⟨.accepted, [byte t.val]⟩

/-- The first check of R111 after the mode that refuses an ERASE of the block, checks 3 to 7. -/
def State.eraseRefusal (s : State) (g : GlobalBlock) : Option Reason :=
  if (s.die (dieOf g)).isOffline then some .dieOffline
  else if (s.regionOf g).all fun e => !e.erasePermitted then some .eraseNotPermitted
  else if (s.block g).lock = .shut then some .blockShut
  else if (s.block g).erase ≠ .none then some .alreadyPending
  else if s.ticketSpaceFull then some .listFull
  else none

/-- The tags of the held lists of the LOADING buffers of a block (R40). -/
def State.heldOfBlock (s : State) (g : GlobalBlock) : List Tag :=
  (bufferIndices.filter fun i => (s.buffer i).inBlock g).flatMap fun i => (s.buffer i).held

/-- Every request of the block in a held list of its LOADING buffers or in the buffer wait list receives a pre-erase
mark (R40, R112 step 5). -/
def State.giveMarks (s : State) (g : GlobalBlock) : State :=
  let marked := s.heldOfBlock g ++ s.waitList.filter (s.isForBlock g)
  { s with
    table := mapIndexed
      (fun t r => if marked.any (fun m => m.val == t) then r.map fun (x : Request) => { x with mark := true } else r)
      s.table }

/-- The admission of an ERASE under a ticket: ERASE_PENDING, the ERASE entry at the tail, the FILLING buffers of the
block posted ahead of it in increasing open number, and the marks (R112). -/
def State.admitErase (s : State) (g : GlobalBlock) (t : Ticket) : State :=
  let pendingBlock := (s.giveTicket t).modifyBlock g fun b => { b with erase := .pending }
  let queued := pendingBlock.modifyDie (dieOf g) fun x => { x with workQueue := x.workQueue ++ [.erase (blockOf g) t] }
  (queued.postAll fun b => b.inBlock g).giveMarks g

/-- What ERASE does in its completion happening (R111, R112). -/
def State.erase (block : BitVec 16) (s : State) : State × Answer :=
  match s.fittedBlock block with
  | none => (s, refusal .badArgument)
  | some g =>
    match s.eraseRefusal g with
    | some r => (s, refusal r)
    | none => ((s.admitErase g s.nextTicket).settle, acceptedWith s.nextTicket)

/-- ERASE (R111, R112). -/
def execErase (block : BitVec 16) (s : State) : Host.Outcome State Fault Refusal :=
  .next (s.quiet.runCommand (.erase block) (State.unlessBusy (State.erase block)))

/-- The scope of a FLUSH byte, where it is ALL or a fitted die (R162). -/
def State.flushScope (s : State) (scope : Byte) : Option FlushScope :=
  match FlushScope.ofByte scope with
  | some .all => some .all
  | some (.die d) => if s.fitted d then some (.die d) else none
  | none => none

/-- The buffer is in use and holds a line of a die in scope (R27). -/
def FlushScope.takes (c : FlushScope) (b : Buffer) : Bool :=
  match c with
  | .all => b.line?.isSome
  | .die d => b.inDie d

/-- The admission of a FLUSH under a ticket: its tracking record, the FILLING members posted in increasing open
number, and its completion at once where it has no member (R27, R28, R162). -/
def State.admitFlush (s : State) (c : FlushScope) (t : Ticket) : State :=
  let members := bufferIndices.filter fun i => c.takes (s.buffer i)
  let tracked := { s.giveTicket t with flushes := s.flushes ++ [FlushRecord.mk t c members] }
  (tracked.postAll c.takes).completeFlushes

/-- What FLUSH does in its completion happening (R162). -/
def State.flush (scope : Byte) (s : State) : State × Answer :=
  match s.flushScope scope with
  | none => (s, refusal .badArgument)
  | some c =>
    if s.ticketSpaceFull then (s, refusal .listFull)
    else ((s.admitFlush c s.nextTicket).settle, acceptedWith s.nextTicket)

/-- FLUSH (R162). -/
def execFlush (scope : Byte) (s : State) : Host.Outcome State Fault Refusal :=
  .next (s.quiet.runCommand (.flush scope) (State.unlessBusy (State.flush scope)))

/-- What DIE_RESTART does in its completion happening: admitted, RESET_DIE is sent and the reset limit starts while the
die stays OFFLINE (R89, R161). -/
def State.dieRestart (die : Byte) (s : State) : State × Answer :=
  match s.fittedDie die with
  | none => (s, refusal .badArgument)
  | some d =>
    match (s.die d).state with
    | .offline none =>
      if s.ticketSpaceFull then (s, refusal .listFull)
      else
        (((s.giveTicket s.nextTicket).modifyDie d fun x =>
          x.withState (.offline (some (s.nextTicket, s.now + Config.resetLimit)))).send d .resetDie,
          acceptedWith s.nextTicket)
    | .offline (some _) => (s, refusal .alreadyPending)
    | _ => (s, refusal .dieNotOffline)

/-- DIE_RESTART (R89, R161). -/
def execDieRestart (die : Byte) (s : State) : Host.Outcome State Fault Refusal :=
  .next (s.quiet.runCommand (.dieRestart die) (State.unlessBusy (State.dieRestart die)))

/-! ## Records -/

/-- What FAULT_READ does: the oldest record is removed and returned, or the empty indication (R165). -/
def State.faultRead (s : State) : State × Answer :=
  match s.faultLog with
  | [] => (s, ⟨.done, [0]⟩)
  | r :: rest => ({ s with faultLog := rest }, ⟨.done, byte rest.length :: r.encode⟩)

/-- FAULT_READ (R165). -/
def execFaultRead (s : State) : Host.Outcome State Fault Refusal :=
  .next (s.quiet.runCommand .faultRead State.faultRead)

/-- What FAULT_CLEAR does: the log is emptied and the overflow mark cleared; the sequence counter stands (R165). -/
def State.faultClear (s : State) : State × Answer := ({ s with faultLog := [], overflow := false }, doneBare)

/-- FAULT_CLEAR (R165). -/
def execFaultClear (s : State) : Host.Outcome State Fault Refusal :=
  .next (s.quiet.runCommand .faultClear (State.unlessBusy State.faultClear))

/-- What COMPLETION_READ does: the oldest record is removed and returned, or the empty indication (R164). -/
def State.completionRead (s : State) : State × Answer :=
  match s.completions with
  | [] => (s, ⟨.done, [0]⟩)
  | c :: rest => ({ s with completions := rest }, ⟨.done, byte rest.length :: c.encode⟩)

/-- COMPLETION_READ (R164). -/
def execCompletionRead (s : State) : Host.Outcome State Fault Refusal :=
  .next (s.quiet.runCommand .completionRead State.completionRead)

/-- What CHANNEL_RESET does: it is ACCEPTED, and the channel reset begins (R166). -/
def State.channelReset (s : State) : State × Answer := (s.beginChannelReset, ⟨.accepted, []⟩)

/-- CHANNEL_RESET (R166). -/
def execChannelReset (s : State) : Host.Outcome State Fault Refusal :=
  .next (s.quiet.runCommand .channelReset (State.unlessBusy State.channelReset))

end Sys2Proof.Machine
end

