-- ==== Sys2Proof/Machine/Dispatch.lean ====
section
/-! DEFINITION. One arm per command: the meaning of each row of spec/opcode_table.json. -/

namespace Sys2Proof.Machine

open Sys2Proof

/-- The effect of a command on everything but the queue. -/
def exec (i : Instr) (s : State) : Host.Outcome State Fault Refusal :=
  match i with
  | .powerOn dcount protnLow rstnLow => Sys2Proof.Machine.execPowerOn dcount protnLow rstnLow s
  | .lineReset => Sys2Proof.Machine.execLineReset s
  | .rstnRelease dcount => Sys2Proof.Machine.execRstnRelease dcount s
  | .protnAssertion => Sys2Proof.Machine.execProtnAssertion s
  | .protnRelease => Sys2Proof.Machine.execProtnRelease s
  | .hostWrite tag address beats => Sys2Proof.Machine.execHostWrite tag address beats s
  | .hostRead tag address beats => Sys2Proof.Machine.execHostRead tag address beats s
  | .responseDelivery => Sys2Proof.Machine.execResponseDelivery s
  | .holdTimerExpiry tag => Sys2Proof.Machine.execHoldTimerExpiry tag s
  | .coalesceTimerExpiry buffer => Sys2Proof.Machine.execCoalesceTimerExpiry buffer s
  | .lineData die data => Sys2Proof.Machine.execLineData die data s
  | .programEndPass die => Sys2Proof.Machine.execProgramEndPass die s
  | .programEndFail die => Sys2Proof.Machine.execProgramEndFail die s
  | .eraseEndPass die => Sys2Proof.Machine.execEraseEndPass die s
  | .eraseEndFail die => Sys2Proof.Machine.execEraseEndFail die s
  | .halted die => Sys2Proof.Machine.execHalted die s
  | .resetEnd die => Sys2Proof.Machine.execResetEnd die s
  | .resetLimitExpiry die => Sys2Proof.Machine.execResetLimitExpiry die s
  | .operationLimitExpiry die kind => Sys2Proof.Machine.execOperationLimitExpiry die kind s
  | .guardExpiry die => Sys2Proof.Machine.execGuardExpiry die s
  | .holdOffExpiry die => Sys2Proof.Machine.execHoldOffExpiry die s
  | .commandFrame bytes partialByte => Sys2Proof.Machine.execCommandFrame bytes partialByte s
  | .replyFrame length => Sys2Proof.Machine.execReplyFrame length s
  | .malformedFrame firstByte => Sys2Proof.Machine.execMalformedFrame firstByte s
  | .status => Sys2Proof.Machine.execStatus s
  | .configure coalesce hold guard holdOff budget enables => Sys2Proof.Machine.execConfigure coalesce hold guard holdOff budget enables s
  | .configRead => Sys2Proof.Machine.execConfigRead s
  | .regionWrite index valid first last mode erasePermitted posting => Sys2Proof.Machine.execRegionWrite index valid first last mode erasePermitted posting s
  | .regionRead index => Sys2Proof.Machine.execRegionRead index s
  | .lock first last lockState => Sys2Proof.Machine.execLock first last lockState s
  | .ceiling die value => Sys2Proof.Machine.execCeiling die value s
  | .blockQuery block => Sys2Proof.Machine.execBlockQuery block s
  | .bufferQuery index => Sys2Proof.Machine.execBufferQuery index s
  | .dieQuery die => Sys2Proof.Machine.execDieQuery die s
  | .erase block => Sys2Proof.Machine.execErase block s
  | .flush scope => Sys2Proof.Machine.execFlush scope s
  | .dieRestart die => Sys2Proof.Machine.execDieRestart die s
  | .faultRead => Sys2Proof.Machine.execFaultRead s
  | .faultClear => Sys2Proof.Machine.execFaultClear s
  | .completionRead => Sys2Proof.Machine.execCompletionRead s
  | .channelReset => Sys2Proof.Machine.execChannelReset s

end Sys2Proof.Machine
end

