-- ==== Sys2Proof/Machine/Tick.lean ====
section
/-! DEFINITION. The 1 µs timebase: what falls due as time passes with no command waiting (00_scope.md section 5,
Time). -/

namespace Sys2Proof.Machine

open Sys2Proof

/-- The timer with this point of expiry, where it runs, has run out by now. -/
def State.isDue (s : State) (due : Option Nat) : Bool :=
  match due with
  | some n => n ≤ s.now
  | none => false

/-- The limit of this kind that runs on the die has run out by now. -/
def State.limitIsDue (s : State) (d : DieIx) (k : LimitKind) : Bool :=
  s.isDue (((s.die d).limit d k).map Prod.fst)

/-- The point at which the reset limit of a die runs out, where it runs (R73, R89, R90). -/
def Die.resetDue? (x : Die) : Option Nat :=
  match x.state with
  | .starting due => due
  | .offline (some (_, due)) => some due
  | _ => none

/-- The point at which the hold-off timer of a die runs out, where it runs (R98). -/
def Die.holdOffDue? (x : Die) : Option Nat :=
  match x.state with
  | .halted due => due
  | _ => none

/-- The happenings of one die's timers that are due. DESIGN CHOICE (log entry 2): of two that are due in one moment the
one listed first is taken first. On a HALTING die the limit of the operation stands ahead of the HALT limit, so that
where both run out in one moment the die goes OFFLINE with kind PROGRAM or ERASE, and the HALT limit, stopped by that,
does nothing; R86, R94 and R106 say what each does and not which is taken. -/
def State.dueOnDie (s : State) (d : DieIx) : List Instr :=
  (if s.isDue (s.die d).resetDue? then [.resetLimitExpiry d] else [])
    ++ ([.read, .program, .erase, .halt].filter (s.limitIsDue d)).map (.operationLimitExpiry d)
    ++ (if s.isDue (s.die d).guardDue? then [.guardExpiry d] else [])
    ++ (if s.isDue (s.die d).holdOffDue? then [.holdOffExpiry d] else [])

/-- The happenings that are due at this point of time: the completion of a command that has been in execution for 5 µs
(R152), the delivery of the head response (R148), and the timers that have run out. -/
def State.dueHappenings (s : State) : List Instr :=
  (match s.executing with
    | some x => if x.due ≤ s.now then [x.command.completion] else []
    | none => [])
    ++ (if s.responses.isEmpty then [] else [.responseDelivery])
    ++ (tagIndices.filter fun t => s.isDue ((s.request t).bind Request.holdDue)).map .holdTimerExpiry
    ++ (bufferIndices.filter fun i => s.isDue (s.buffer i).coalesceDue?).map .coalesceTimerExpiry
    ++ dieIndices.flatMap s.dueOnDie

/-- One tick of the timebase, with no command waiting: what is due becomes the queue. -/
def State.tick (s : State) : State :=
  let later := { s.quiet with now := s.now + 1 }
  { later with pending := later.dueHappenings }

end Sys2Proof.Machine
end

