-- ==== Sys2Proof/Safety.lean ====
section
/-! DEFINITION. The conditions and laws the statements speak of: when a request is accepted and admitted, when a
command completes, when a die controller has nothing to do, and the laws that every step keeps. -/

namespace Sys2Proof

/-- The command is one of those refused during start-up and channel reset (R156). -/
def MgmtCommand.refusedWhenBusy : MgmtCommand → Bool
  | .configure _ _ _ _ _ _ => true
  | .regionWrite _ _ _ _ _ _ _ => true
  | .lock _ _ _ => true
  | .erase _ => true
  | .flush _ => true
  | .dieRestart _ => true
  | .faultClear => true
  | .channelReset => true
  | _ => false

/-- The two commands after which every ceiling is 0 (R126, R129). -/
def Instr.zeroesCeilings : Instr → Bool
  | .powerOn _ _ _ => true
  | .lineReset => true
  | _ => false

/-- The happenings of traffic: host requests and their timers, responses, and what the dies and their timers bring but
for the end of a die's reset. -/
def Instr.isTraffic : Instr → Bool
  | .hostWrite _ _ _ => true
  | .hostRead _ _ _ => true
  | .responseDelivery => true
  | .holdTimerExpiry _ => true
  | .coalesceTimerExpiry _ => true
  | .lineData _ _ => true
  | .programEndPass _ => true
  | .programEndFail _ => true
  | .eraseEndPass _ => true
  | .eraseEndFail _ => true
  | .halted _ => true
  | .operationLimitExpiry _ _ => true
  | .guardExpiry _ => true
  | .holdOffExpiry _ => true
  | _ => false

end Sys2Proof

namespace Sys2Proof.Machine

open Sys2Proof

/-! ## Host requests -/

/-- A request of `n` beats at address `a` under tag `t` is accepted and passes the port checks: HRDY is high, the
request has 1 to 8 beats, the address lies in the fitted window and is aligned, the request stays in its line, and
nothing is outstanding under the tag (R139, R140). -/
abbrev State.accepts (s : State) (t : Tag) (a : BitVec 27) (n : Nat) : Prop :=
  s.hrdy = true ∧ 1 ≤ n ∧ n ≤ 8 ∧ a.toNat < s.fittedDies * 33554432 ∧ a.toNat % 8 = 0 ∧
    a.toNat % 64 + 8 * n ≤ 64 ∧ s.request t = none

/-- The tag stands neither in the buffer wait list nor in the hold list of the line's block, as a tag under which
nothing is outstanding does (R141). -/
abbrev State.tagFree (s : State) (t : Tag) (l : LineAddr) : Prop :=
  t ∉ s.waitList ∧ t ∉ (s.block l.global).holdList

/-- The request that a write of these beats becomes at its acceptance. -/
def State.newWrite (s : State) (a : BitVec 27) (beats : List Beat) : Request := s.accepted a (.write beats)

/-- The request that a read of this many beats becomes at its acceptance. -/
def State.newRead (s : State) (a : BitVec 27) (n : Nat) : Request := s.accepted a (.read n)

/-- A write passes steps 2 to 6 of admission under mode `m`, and has an enabled byte: its die is not OFFLINE, its
block is HEALTHY, in erase state NONE and OPEN, and its region has that mode (R36 to R43). -/
abbrev State.admits (s : State) (r : Request) (m : AdmittedMode) : Prop :=
  (s.die r.line.die).isOffline = false ∧ (s.block r.line.global).health = .healthy ∧
    (s.block r.line.global).erase = .none ∧ (s.block r.line.global).lock = .opened ∧
    (s.regionOf r.line.global).map RegionEntry.mode =
      some (match m with
        | .combine => .combine
        | .appendOnce => .appendOnce) ∧
    r.coversNothing = false

/-- The write as admission leaves it, carrying its admitted mode (R41). -/
def Request.admitted (r : Request) (m : AdmittedMode) : Request := { r with mode := some m }

/-! ## Line buffers -/

/-- A posting cause holds for buffer `i` of the line after a merge that has left it with the body: its written set holds
all 64 positions, the coalesce window is 0, its block's region has the AT_ONCE policy, its block is ERASE_PENDING, or
it is a member of an admitted flush (R10, R14, R15, R27). -/
abbrev State.postsNow (s : State) (i : BufIx) (l : LineAddr) (body : LineBody) : Prop :=
  (∀ p : Fin 64, body.written[p] = true) ∨ s.settings.coalesceWindow = 0 ∨
    (s.regionOf l.global).map RegionEntry.posting = some .atOnce ∨ (s.block l.global).erase = .pending ∨
    ∃ f ∈ s.flushes, i ∈ f.members

/-- What the requests of one line come to when they meet its buffer in order: the body they leave and their responses.
A write that fits is overlaid and answered OK, one that does not is refused whole, and a read is answered from the
image as the writes ahead of it have left it (R9, R44, R47). -/
def meetInOrder (mode : Request → AdmittedMode) : LineBody → List (Tag × Request) → LineBody × List Response
  | body, [] => (body, [])
  | body, (t, r) :: rest =>
    if r.payload.isWrite = false then
      let later := meetInOrder mode body rest
      (later.1, ⟨t, .ok, some ((body.image.toList.drop r.position.val).take (8 * r.payload.beats))⟩ :: later.2)
    else if r.fits (mode r) body then
      let later := meetInOrder mode (body.overlay r) rest
      (later.1, ⟨t, .ok, none⟩ :: later.2)
    else
      let later := meetInOrder mode body rest
      (later.1, ⟨t, .refused (mode r).refusal, none⟩ :: later.2)

/-- The PROGRAM entries of buffers, in the order given. -/
def programEntries (is : List BufIx) : List WorkEntry := is.map WorkEntry.program

/-- The list holds exactly the FILLING buffers that satisfy `p`, in increasing open number. -/
abbrev State.fillingInOrder (s : State) (p : Buffer → Bool) (is : List BufIx) : Prop :=
  (∀ i, i ∈ is ↔ ((s.buffer i).isFilling = true ∧ p (s.buffer i) = true)) ∧
    is.Pairwise fun i j => ((s.buffer i).openNumber?).getD 0 < ((s.buffer j).openNumber?).getD 0

/-- The buffer as posting leaves it (R12). -/
def Buffer.asPosted : Buffer → Buffer
  | .filling l n body p _ => .posted l n body p
  | b => b

/-! ## Fault log -/

/-- The state with these fault records written, in order: each takes the next sequence number, as many as the log has
room for are stored, and the overflow mark is set where one is not (R168, R170). -/
def State.recorded (s : State) (bodies : List FaultBody) : State :=
  { s with
    faultLog := s.faultLog ++
      ((bodies.zipIdx.map fun b => ⟨s.sequence + BitVec.ofNat 16 b.2, b.1⟩).take (16 - s.faultLog.length))
    overflow := s.overflow || Decidable.decide (16 < s.faultLog.length + bodies.length)
    sequence := s.sequence + BitVec.ofNat 16 bodies.length }

/-! ## Die controllers -/

/-- The die controller has nothing to do: it is idle with empty queues, or HALTED with its hold-off running and no read
waiting, or running an operation with no read to halt it for, or in a state in which the arbiter starts nothing
(R79). -/
def Die.atRest (x : Die) : Bool :=
  match x.state with
  | .ready => x.readQueue.isEmpty && x.workQueue.isEmpty
  | .halted h => x.readQueue.isEmpty && h.isSome
  | .programming _ _ none => x.readQueue.isEmpty
  | .erasing _ _ none => x.readQueue.isEmpty
  | _ => true

/-- Every die controller has nothing to do. -/
abbrev State.atRest (s : State) : Prop := ∀ d : DieIx, (s.die d).atRest = true

/-- Every die controller but that of `d` has nothing to do. -/
abbrev State.othersAtRest (s : State) (d : DieIx) : Prop := ∀ d' : DieIx, d' ≠ d → (s.die d').atRest = true

/-- No write waits for a buffer, so that a freed buffer goes to none (R25). -/
abbrev State.noWriteWaits (s : State) : Prop := ∀ t ∈ s.waitList, s.isWrite t = false

/-- Every flush tracking record has a member, as every record of an unfinished flush does (R28). -/
abbrev State.flushesOpen (s : State) : Prop := ∀ f ∈ s.flushes, f.members ≠ []

/-- The requests that a die's going OFFLINE answers, in the order in which it answers them: its host reads, the hold
lists of its blocks, the waiting requests for its lines, and the held lists of its LOADING buffers (R87). -/
def State.waitingOnDie (s : State) (d : DieIx) : List Tag :=
  (s.die d).hostReads ++ s.heldForDie d ++ s.waitList.filter (s.isForDie d)
    ++ bufferIndices.flatMap fun i => if (s.buffer i).inDie d then (s.buffer i).held else []

/-! ## Management port -/

/-- RSTN is high and the command is the one in execution (R152). -/
abbrev State.completing (s : State) (c : MgmtCommand) : Prop :=
  s.rstnLow = false ∧ s.executing.map Executing.command = some c

/-- The state with the command completed: the stored reply carries the status and the fields and keeps its dropped
mark, and nothing is in execution (R152). -/
def State.replied (s : State) (c : MgmtCommand) (status : ReplyStatus) (fields : List Byte) : State :=
  { s with reply := ⟨c.commandByte, status, s.reply.dropped, fields⟩, executing := none }

/-! ## Laws -/

/-- While PROTN is asserted no pinned block is OPEN; an absent die position has a ceiling of 0; and while RSTN is low
every ceiling is 0, as the line reset left it (R126, R131, R136). -/
def State.ProtnLaw (s : State) : Prop :=
  (s.protn = true → ∀ g : GlobalBlock, s.pinned g = true → (s.block g).lock = .shut) ∧
    (∀ d : DieIx, s.fitted d = false → s.ceilings[d] = 0) ∧ (s.rstnLow = true → ∀ d : DieIx, s.ceilings[d] = 0)

/-- No two valid region table entries share a block (R32). -/
def State.RegionLaw (s : State) : Prop :=
  ∀ i j : Fin 8, i ≠ j → ∀ g : GlobalBlock,
    ¬((s.regions[i]).contains g = true ∧ (s.regions[j]).contains g = true)

/-- The fault log holds at most 16 records (R168). -/
def State.FaultLogLaw (s : State) : Prop := s.faultLog.length ≤ 16

/-- The outstanding requests and the responses not yet delivered (R139). -/
def State.portLoad (s : State) : Nat := s.outstandingCount + s.responses.length

/-- Outstanding requests and undelivered responses together are at most 16 (R139, R141, R148). -/
def State.PortLaw (s : State) : Prop := s.portLoad ≤ 16

/-- No two outstanding requests have the same place in the order of acceptance (R138). -/
def State.OrderLaw (s : State) : Prop :=
  ∀ (t t' : Tag) (r r' : Request), s.request t = some r → s.request t' = some r' → r.order = r'.order → t = t'

/-- Two line buffers that hold the same line are a PROGRAMMING buffer and its successor, which is linked to it; and the
buffer that a link names is PROGRAMMING and holds the line of the buffer that has the link. So at most two buffers
hold a line (R4). -/
def State.PoolLaw (s : State) : Prop :=
  (∀ i j : BufIx, i ≠ j → (s.buffer i).line? ≠ none → (s.buffer i).line? = (s.buffer j).line? →
    ((s.buffer i).isProgramming = true ∧ (s.buffer j).predecessor? = some i) ∨
      ((s.buffer j).isProgramming = true ∧ (s.buffer i).predecessor? = some j)) ∧
    ∀ i p : BufIx, (s.buffer i).predecessor? = some p →
      (s.buffer p).isProgramming = true ∧ (s.buffer p).line? = (s.buffer i).line?

/-- The long operations of a die that have not ended, bottom first: those of its halt context, then the one that runs
or is being halted (R78). -/
def Die.operations (x : Die) : List ArrayOp :=
  x.context.map ContextEntry.op
    ++ (match x.state with
      | .programming p _ _ => [.program p]
      | .erasing e _ _ => [.erase e]
      | .halting op _ _ => [op]
      | _ => [])

/-- The operations that a die can have unfinished together: none, one, or a program above an erase (R78). -/
def operationsFit : List ArrayOp → Bool
  | [] => true
  | [_] => true
  | [.erase _, .program _] => true
  | _ => false

/-- The unfinished operations of a die, those of its halt context among them, are none, one, or a program above an
erase, and a READY or STARTING die has an empty halt context (R78). -/
def Die.ContextLaw (x : Die) : Prop :=
  operationsFit x.operations = true ∧ (x.state = .ready ∨ x.isStarting = true → x.context = [])

/-- Every die keeps the law of its halt context (R78). -/
def State.ContextLaw (s : State) : Prop := ∀ d : DieIx, (s.die d).ContextLaw

/-- At most eight ticket numbers are in use, outstanding tickets and completion records together, and none twice
(R160, R161). -/
def State.TicketLaw (s : State) : Prop := s.ticketsInUse.length ≤ 8 ∧ s.ticketsInUse.Nodup

/-- The parts of the state that only the resets, the PROTN line and the management port's commands change: traffic,
the dies and time leave them as they are. -/
structure Setup where
  mode : PartMode
  rstnLow : Bool
  dcount : BitVec 2
  protnPin : Bool
  protn : Bool
  settings : Settings
  regions : Vector RegionEntry 8
  ceilings : Vector (Fin 257) 4
  locks : List Lock
  reply : Reply
  executing : Option Executing
  ticketCounter : Ticket
  pending : List Instr
deriving DecidableEq

/-- The setup of the part. -/
def State.setup (s : State) : Setup :=
  ⟨s.mode, s.rstnLow, s.dcount, s.protnPin, s.protn, s.settings, s.regions, s.ceilings,
    s.blocks.toList.map BlockRecord.lock, s.reply, s.executing, s.ticketCounter, s.pending⟩

end Sys2Proof.Machine
end

