-- ==== Sys2Proof/Certificates/Slice0/Obligations.lean ====
section
/-! DEFINITION. The statements about the IHA420 that the provers are asked for, chapter by chapter of the spec. A
statement about a command gives the whole next state: the fields it does not name are those of the state before. -/

open Sys2Proof Sys2Proof.Machine

/-! ## The queue and the timebase -/

/-- The step of a machine with a command waiting is that command's effect on the machine with the queue's rest. That
commands wait in a queue, first in first out, is the model's choice (log entry 27). -/
def Obligations.StepRunsFrontCommand : Prop :=
  ∀ (c : Instr) (rest : List Instr) (s : State), s.pending = c :: rest → step s = exec c { s with pending := rest }

/-- With no command waiting, 1 µs passes, and the commands that then make up the queue are exactly those that are due:
the completion of a command that has been in execution for its bound, the delivery of a head response, and each timer
that has run out (log entries 2 and 5, the model's choice). -/
def Obligations.StepTicksWhenIdle : Prop :=
  ∀ s : State, s.pending = [] → ∃ u, step s = .next u ∧
    u = { s with now := s.now + 1, out := Outputs.none, pending := u.pending } ∧
    ∀ c : Instr, c ∈ u.pending ↔
      (∃ x, s.executing = some x ∧ x.due ≤ s.now + 1 ∧ c = x.command.completion) ∨
      (s.responses ≠ [] ∧ c = .responseDelivery) ∨
      (∃ t due, (s.request t).bind Request.holdDue = some due ∧ due ≤ s.now + 1 ∧ c = .holdTimerExpiry t) ∨
      (∃ i due, (s.buffer i).coalesceDue? = some due ∧ due ≤ s.now + 1 ∧ c = .coalesceTimerExpiry i) ∨
      (∃ d due, (s.die d).resetDue? = some due ∧ due ≤ s.now + 1 ∧ c = .resetLimitExpiry d) ∨
      (∃ d k due report, (s.die d).limit d k = some (due, report) ∧ due ≤ s.now + 1 ∧
        c = .operationLimitExpiry d k) ∨
      (∃ d due, (s.die d).guardDue? = some due ∧ due ≤ s.now + 1 ∧ c = .guardExpiry d) ∨
      ∃ d due, (s.die d).holdOffDue? = some due ∧ due ≤ s.now + 1 ∧ c = .holdOffExpiry d

/-! ## Resets -/

/-- The values after power-on that the chapters give (R3, R30, R71, R72, R110, R125, R126, R152, R159, R160, R180). That
four dies are fitted and RSTN is high, so that each die has been sent RESET_DIE at time 0 of the model's own count, is
the model's choice (log entries 1 and 24). -/
def Obligations.ResetValues : Prop :=
  State.reset.mode = .starting ∧ State.reset.settings = ⟨256, 20000, 100, 10, 2, false, false⟩ ∧
    (∀ t, State.reset.request t = none) ∧ State.reset.responses = [] ∧
    (∀ i : Fin 8, State.reset.regions[i] = ⟨false, 0, 0, .readOnly, false, .window⟩) ∧
    (∀ i, State.reset.buffer i = .free) ∧ State.reset.openCounter = 0 ∧ State.reset.waitList = [] ∧
    State.reset.flushes = [] ∧ (∀ g, State.reset.block g = ⟨.shut, .healthy, .none, false, []⟩) ∧
    (∀ d, State.reset.die d = ⟨.starting (some 200), [], [], [], 0⟩) ∧
    (∀ d : DieIx, State.reset.ceilings[d] = 0) ∧ State.reset.reply = ⟨0x00, .refused .badCommand, false, []⟩ ∧
    State.reset.executing = none ∧ State.reset.ticketCounter = 0 ∧ State.reset.completions = [] ∧
    State.reset.faultLog = [] ∧ State.reset.overflow = false ∧ State.reset.sequence = 0

/-- POWER_ON gives every piece of state its starting value from any state. With RSTN high start-up begins at once:
each fitted die is sent RESET_DIE and its 200 µs limit runs. With RSTN low it waits for RSTN (R71 to R73, R180; log
entries 1, 10 and 11 for the levels and for what a die is while RSTN is low). -/
def Obligations.PowerOnStartsUp : Prop :=
  ∀ (dcount : BitVec 2) (protnLow rstnLow : Bool) (s : State),
    ∃ u, exec (.powerOn dcount protnLow rstnLow) s = .next u ∧
      u = { State.reset with
        rstnLow := rstnLow, dcount := dcount, protnPin := protnLow, protn := protnLow, pending := s.pending
        dies := u.dies, out := u.out } ∧
      (∀ d : DieIx, u.die d =
        ⟨if d.val ≤ dcount.toNat then .starting (if rstnLow then none else some 200) else .absent, [], [], [], 0⟩) ∧
      u.out = ⟨if rstnLow then []
        else (dieIndices.filter fun d => d.val ≤ dcount.toNat).map fun d => (d, .resetDie), none, []⟩

/-- LINE_RESET takes the power-on values from any state, but keeps the fault log, its overflow mark and its sequence
counter. RSTN_RELEASE at its end samples DCOUNT, records the level of PROTN, sends RESET_DIE to each fitted die and
starts its 200 µs limit, and changes no lock and no ceiling (R71, R73, R127, R180; log entry 10 for what the part shows
while RSTN is low). -/
def Obligations.LineResetKeepsFaultLog : Prop :=
  ∀ s : State,
    (∃ u, exec .lineReset s = .next u ∧
      u = { State.reset with
        rstnLow := true, dcount := s.dcount, protnPin := s.protnPin, protn := s.protn, pending := s.pending
        faultLog := s.faultLog, overflow := s.overflow, sequence := s.sequence, dies := u.dies, out := Outputs.none } ∧
      ∀ d : DieIx, u.die d = ⟨if d.val ≤ s.dcount.toNat then .starting none else .absent, [], [], [], 0⟩) ∧
    ∀ dcount : BitVec 2, s.rstnLow = true →
      ∃ u, exec (.rstnRelease dcount) s = .next u ∧
        u = { s with
          rstnLow := false, dcount := dcount, protn := s.protnPin, mode := .starting, dies := u.dies
          out := ⟨(dieIndices.filter fun d => d.val ≤ dcount.toNat).map fun d => (d, .resetDie), none, []⟩ } ∧
        ∀ d : DieIx, u.die d =
          ⟨if d.val ≤ dcount.toNat then .starting (some (s.now + 200)) else .absent, [], [], [], 0⟩

/-! ## Protection -/

/-- The assertion of PROTN shuts every pinned block of every fitted die and changes nothing else: blocks that are not
pinned keep their locks, and the ceilings stand (R131). -/
def Obligations.ProtnAssertionShutsPinnedBlocks : Prop :=
  ∀ s : State, s.rstnLow = false → s.protn = false →
    ∃ u, exec .protnAssertion s = .next u ∧
      u = { s with protnPin := true, protn := true, blocks := u.blocks, out := Outputs.none } ∧
      ∀ g : GlobalBlock, u.block g =
        if g.val / 256 < s.fittedDies ∧ (blockOf g).val < (s.ceilings[dieOf g]).val then
          { s.block g with lock := .shut }
        else s.block g

/-- The release of PROTN changes no lock and no ceiling, nor anything else but the recorded level; and while RSTN is low
neither change of PROTN is taken, so that only the pin's own level changes (R127, R132). -/
def Obligations.ProtnReleaseKeepsLocks : Prop :=
  ∀ s : State,
    (s.rstnLow = false →
      exec .protnRelease s = .next { s with protnPin := false, protn := false, out := Outputs.none }) ∧
    (s.rstnLow = true →
      exec .protnAssertion s = .next { s with protnPin := true, out := Outputs.none } ∧
        exec .protnRelease s = .next { s with protnPin := false, out := Outputs.none })

/-- A LOCK whose checks pass gives every block of its range the lock state and changes no other block (R128). -/
def Obligations.LockSetsRange : Prop :=
  ∀ (first last : BitVec 16) (k : Byte) (s : State), s.completing (.lock first last k) → s.mode = .running →
    first.toNat ≤ last.toNat → last.toNat < s.fittedDies * 256 → k = 0x00 ∨ k = 0x01 →
    (k = 0x01 → s.protn = true →
      ∀ g : GlobalBlock, first.toNat ≤ g.val → g.val ≤ last.toNat → s.pinned g = false) →
    ∃ u, exec (.lock first last k) s = .next u ∧
      u = { s.replied (.lock first last k) .done [] with blocks := u.blocks, out := Outputs.none } ∧
      ∀ g : GlobalBlock, u.block g =
        if first.toNat ≤ g.val ∧ g.val ≤ last.toNat then
          { s.block g with lock := if k = 0x01 then .opened else .shut }
        else s.block g

/-- A CEILING that moves the way the PROTN level allows sets the ceiling and is answered DONE with it. Raised under an
asserted level it shuts the blocks it newly pins; otherwise no lock changes (R129, R130). -/
def Obligations.CeilingMovesOneWay : Prop :=
  ∀ (d : DieIx) (die : Byte) (value : BitVec 16) (s : State), s.completing (.ceiling die value) → s.mode = .running →
    die.toNat = d.val → d.val < s.fittedDies → ∀ h : value.toNat < 257,
    (if s.protn then (s.ceilings[d]).val ≤ value.toNat else value.toNat ≤ (s.ceilings[d]).val) →
    ∃ u, exec (.ceiling die value) s = .next u ∧
      u = { s.replied (.ceiling die value) .done [hiByte value, loByte value] with
        ceilings := s.ceilings.set d ⟨value.toNat, h⟩, blocks := u.blocks, out := Outputs.none } ∧
      ∀ g : GlobalBlock, u.block g =
        if s.protn = true ∧ dieOf g = d ∧ (s.ceilings[d]).val ≤ (blockOf g).val ∧ (blockOf g).val < value.toNat then
          { s.block g with lock := .shut }
        else s.block g

/-- A LOCK or a CEILING that fails a check after the mode is refused with the reason of the first check that fails, and
no block and no ceiling changes; PROTECTED carries the ceiling that stays in force (R128, R129). -/
def Obligations.ProtectionCommandsRefused : Prop :=
  (∀ (first last : BitVec 16) (k : Byte) (s : State), s.completing (.lock first last k) → s.mode = .running →
    (last.toNat < first.toNat ∨ s.fittedDies * 256 ≤ last.toNat ∨ (k ≠ 0x00 ∧ k ≠ 0x01) →
      exec (.lock first last k) s =
        .next { s.replied (.lock first last k) (.refused .badArgument) [] with out := Outputs.none }) ∧
    (first.toNat ≤ last.toNat → last.toNat < s.fittedDies * 256 → k = 0x01 → s.protn = true →
      (∃ g : GlobalBlock, first.toNat ≤ g.val ∧ g.val ≤ last.toNat ∧ s.pinned g = true) →
      exec (.lock first last k) s =
        .next { s.replied (.lock first last k) (.refused .pinned) [] with out := Outputs.none })) ∧
  ∀ (die : Byte) (value : BitVec 16) (s : State), s.completing (.ceiling die value) → s.mode = .running →
    (s.fittedDies ≤ die.toNat ∨ 256 < value.toNat →
      exec (.ceiling die value) s =
        .next { s.replied (.ceiling die value) (.refused .badArgument) [] with out := Outputs.none }) ∧
    ∀ d : DieIx, die.toNat = d.val → d.val < s.fittedDies → value.toNat < 257 →
      (if s.protn then value.toNat < (s.ceilings[d]).val else (s.ceilings[d]).val < value.toNat) →
      exec (.ceiling die value) s =
        .next { s.replied (.ceiling die value) (.refused .ceilingProtected) (twoBytes (s.ceilings[d]).val) with
          out := Outputs.none }

/-! ## The host port -/

/-- HRDY is high exactly when RSTN is high, the part is neither in start-up nor in a channel reset, and outstanding
requests and undelivered responses number less than 16. While it is low no request is accepted: a presented request
changes nothing (log entry 6). While it is high, a port check that fails answers the request at once with the first
failing check's detail, ADDRESS, then ALIGN, then DUPLICATE_TAG, and the request takes no entry (R139, R140). -/
def Obligations.PortAcceptsOrAnswers : Prop :=
  ∀ s : State,
    (s.hrdy = true ↔ s.rstnLow = false ∧ s.mode = .running ∧
      (tagIndices.filter fun t => (s.request t).isSome).length + s.responses.length < 16) ∧
    ∀ (t : Tag) (a : BitVec 27) (beats : List Beat) (n : Nat), 1 ≤ n → n ≤ 8 → beats.length = n →
      (s.hrdy = false →
        exec (.hostWrite t a beats) s = .next { s with out := Outputs.none } ∧
          exec (.hostRead t a n) s = .next { s with out := Outputs.none }) ∧
      ∀ detail : FaultDetail, s.hrdy = true →
        (if s.fittedDies * 33554432 ≤ a.toNat then detail = .address
          else if a.toNat % 8 ≠ 0 ∨ 64 < a.toNat % 64 + 8 * n then detail = .align
          else s.request t ≠ none ∧ detail = .duplicateTag) →
        exec (.hostWrite t a beats) s =
            .next { s with responses := s.responses ++ [⟨t, .fault detail, none⟩], out := Outputs.none } ∧
          exec (.hostRead t a n) s =
            .next { s with responses := s.responses ++ [⟨t, .fault detail, none⟩], out := Outputs.none }

/-- The first of admission steps 2, 3, 5 and 6 that stops a write answers it in the happening of its acceptance, and a
write with no enabled byte that passes them is answered OK; nothing else changes (R36 to R38, R41 to R43). -/
def Obligations.WriteAnsweredByAdmission : Prop :=
  ∀ (t : Tag) (a : BitVec 27) (beats : List Beat) (s : State), s.accepts t a beats.length →
    let r := s.newWrite a beats
    let b := s.block r.line.global
    ∀ code : RespCode,
    (if (s.die r.line.die).isOffline then code = .fault .dieOffline
      else if b.health = .failed then code = .fault .blockFailed
      else if b.erase ≠ .none then False
      else match (s.regionOf r.line.global).map RegionEntry.mode with
        | none => code = .refused .noRegion
        | some .readOnly => code = .refused .readOnly
        | some _ => if b.lock = .shut then code = .refused .locked else r.coversNothing = true ∧ code = .ok) →
    exec (.hostWrite t a beats) s =
      .next { s with responses := s.responses ++ [⟨t, code, none⟩], out := Outputs.none }

/-- A write to a block that is ERASE_PENDING or ERASING joins the tail of its block's hold list, unanswered, last in the
order of acceptance of the outstanding requests (R39; R138 for the order, whose numbers are the model's own, log entry
31). -/
def Obligations.WriteHeldByErase : Prop :=
  ∀ (t : Tag) (a : BitVec 27) (beats : List Beat) (s : State), s.accepts t a beats.length →
    let r := s.newWrite a beats
    let b := s.block r.line.global
    (s.die r.line.die).isOffline = false → b.health = .healthy → b.erase ≠ .none →
    exec (.hostWrite t a beats) s =
        .next { s with
          table := s.table.set t (some r)
          blocks := s.blocks.set r.line.global { b with holdList := b.holdList ++ [t] }
          out := Outputs.none } ∧
      ∀ t' r', s.request t' = some r' → r'.order < r.order

/-- A write meets the FILLING or POSTED buffer of its line. Passing the conflict check it is merged and answered OK: a
FILLING buffer's coalesce timer restarts, or, where a posting cause holds after the merge, the buffer is POSTED with
its PROGRAM entry at the tail of its die's work queue, and an idle die starts it at once. Failing the check the write
is refused with the detail of its mode and the buffer stays as it was (R4, R10, R12, R13, R14, R16, R47, R48). -/
def Obligations.WriteMeetsOpenBuffer : Prop :=
  ∀ (t : Tag) (a : BitVec 27) (beats : List Beat) (m : AdmittedMode) (i : BufIx) (n : Nat) (body : LineBody)
    (p : Option BufIx) (due : Option Nat) (s : State), s.accepts t a beats.length →
    let r := s.newWrite a beats
    let x := s.die r.line.die
    s.tagFree t r.line → s.admits r m → s.writeWaits r.line = false → s.openBuffer r.line = some i → s.atRest →
    (s.buffer i = .filling r.line n body p due → r.fits m body = true → ¬ s.postsNow i r.line (body.overlay r) →
      exec (.hostWrite t a beats) s =
        .next { s with
          responses := s.responses ++ [⟨t, .ok, none⟩]
          buffers := s.buffers.set i (.filling r.line n (body.overlay r) p (some (s.now + s.settings.coalesceWindow)))
          out := Outputs.none }) ∧
    (s.buffer i = .filling r.line n body p due → r.fits m body = true → s.postsNow i r.line (body.overlay r) →
      (({ x with workQueue := x.workQueue ++ [WorkEntry.program i] }).atRest = true →
        exec (.hostWrite t a beats) s =
          .next { s with
            responses := s.responses ++ [⟨t, .ok, none⟩]
            buffers := s.buffers.set i (.posted r.line n (body.overlay r) p)
            dies := s.dies.set r.line.die { x with workQueue := x.workQueue ++ [WorkEntry.program i] }
            out := Outputs.none }) ∧
      (x.state = .ready → p = none → s.settings.guardInterval ≠ 0 →
        exec (.hostWrite t a beats) s =
          .next { s with
            responses := s.responses ++ [⟨t, .ok, none⟩]
            buffers := s.buffers.set i (.programming r.line n (body.overlay r) 0)
            blocks := s.blocks.set r.line.global { s.block r.line.global with clean := false }
            dies := s.dies.set r.line.die
              { x with
                state := .programming ⟨r.line.block, r.line.line, i⟩ (s.now + 3000)
                  (some (s.now + s.settings.guardInterval)) }
            out := ⟨[(r.line.die, .programLine r.line.block r.line.line (body.overlay r).image
              (wordMask (body.overlay r).written))], none, []⟩ })) ∧
    (s.buffer i = .posted r.line n body p → r.fits m body = true →
      exec (.hostWrite t a beats) s =
        .next { s with
          responses := s.responses ++ [⟨t, .ok, none⟩]
          buffers := s.buffers.set i (.posted r.line n (body.overlay r) p)
          out := Outputs.none }) ∧
    (s.buffer i = .filling r.line n body p due ∨ s.buffer i = .posted r.line n body p → r.fits m body = false →
      exec (.hostWrite t a beats) s =
        .next { s with responses := s.responses ++ [⟨t, .refused m.refusal, none⟩], out := Outputs.none })

/-- A write that finds a base at hand opens the lowest FREE buffer with the next open number, and is merged and
answered OK in the same happening: in a clean block on 64 bytes of 0xFF, and on a line that only a PROGRAMMING buffer
holds on a copy of that buffer's image, with a link to it. The buffer is FILLING with its coalesce timer running, or,
where a posting cause holds after the merge, POSTED with its PROGRAM entry at the tail of its die's work queue, and an
idle die starts the program of an unlinked one at once (R2, R4, R5, R7, R10, R12, R14). -/
def Obligations.WriteOpensOnKnownBase : Prop :=
  ∀ (t : Tag) (a : BitVec 27) (beats : List Beat) (m : AdmittedMode) (i : BufIx) (base : LineImage)
    (link : Option BufIx) (s : State), s.accepts t a beats.length →
    let r := s.newWrite a beats
    let x := s.die r.line.die
    let body := (LineBody.fresh base).overlay r
    s.tagFree t r.line → s.admits r m → s.noWriteWaits → s.flushesOpen → s.openBuffer r.line = none →
    s.programmingBuffer r.line = link →
    (match link with
      | none => (s.block r.line.global).clean = true ∧ base = Vector.replicate 64 0xFF
      | some j => ((s.buffer j).body?).map LineBody.image = some base) →
    s.lowestFree = some i → s.atRest → r.fits m (.fresh base) = true →
    (¬ s.postsNow i r.line body →
      exec (.hostWrite t a beats) s =
        .next { s with
          responses := s.responses ++ [⟨t, .ok, none⟩]
          buffers := s.buffers.set i
            (.filling r.line s.openCounter body link (some (s.now + s.settings.coalesceWindow)))
          openCounter := s.openCounter + 1
          out := Outputs.none }) ∧
    (s.postsNow i r.line body →
      (({ x with workQueue := x.workQueue ++ [WorkEntry.program i] }).atRest = true →
        exec (.hostWrite t a beats) s =
          .next { s with
            responses := s.responses ++ [⟨t, .ok, none⟩]
            buffers := s.buffers.set i (.posted r.line s.openCounter body link)
            openCounter := s.openCounter + 1
            dies := s.dies.set r.line.die { x with workQueue := x.workQueue ++ [WorkEntry.program i] }
            out := Outputs.none }) ∧
      (x.state = .ready → link = none → s.settings.guardInterval ≠ 0 →
        exec (.hostWrite t a beats) s =
          .next { s with
            responses := s.responses ++ [⟨t, .ok, none⟩]
            buffers := s.buffers.set i (.programming r.line s.openCounter body 0)
            openCounter := s.openCounter + 1
            blocks := s.blocks.set r.line.global { s.block r.line.global with clean := false }
            dies := s.dies.set r.line.die
              { x with
                state := .programming ⟨r.line.block, r.line.line, i⟩ (s.now + 3000)
                  (some (s.now + s.settings.guardInterval)) }
            out := ⟨[(r.line.die, .programLine r.line.block r.line.line body.image (wordMask body.written))],
              none, []⟩ }))

/-- A write to a line with no buffer in a block that is not clean opens the lowest FREE buffer as LOADING with itself
alone in the held list, and its base load joins the die read queue; a READY die with an empty read queue is sent it
at once (R4, R6, R79). -/
def Obligations.WriteOpensLoadingBuffer : Prop :=
  ∀ (t : Tag) (a : BitVec 27) (beats : List Beat) (m : AdmittedMode) (i : BufIx) (s : State),
    s.accepts t a beats.length →
    let r := s.newWrite a beats
    let x := s.die r.line.die
    s.tagFree t r.line → s.admits r m → s.writeWaits r.line = false → s.openBuffer r.line = none →
    s.programmingBuffer r.line = none → s.lowestFree = some i → (s.block r.line.global).clean = false →
    s.othersAtRest r.line.die → x.state = .ready → x.readQueue = [] →
    exec (.hostWrite t a beats) s =
      .next { s with
        table := s.table.set t (some (r.admitted m))
        buffers := s.buffers.set i (.loading r.line s.openCounter [t])
        openCounter := s.openCounter + 1
        dies := s.dies.set r.line.die
          { x with state := .reading (.baseLoad r.line.block r.line.line i) (s.now + 8) }
        out := ⟨[(r.line.die, .readLine r.line.block r.line.line)], none, []⟩ }

/-- An admitted write whose line a LOADING buffer holds joins the tail of its held list. One that needs a buffer while
none is FREE, or whose line has a write in the buffer wait list, joins the tail of that list, and the FILLING buffer
with the lowest open number is posted: its PROGRAM entry joins the tail of its die's work queue, and an idle die
starts it at once. Where no buffer is FILLING nothing is posted (R4, R8, R12, R23, R24). -/
def Obligations.WriteWaitsForBuffer : Prop :=
  ∀ (t : Tag) (a : BitVec 27) (beats : List Beat) (m : AdmittedMode) (s : State), s.accepts t a beats.length →
    let r := s.newWrite a beats
    s.tagFree t r.line → s.admits r m → s.atRest →
    (∀ (i : BufIx) (n : Nat) (held : List Tag), s.writeWaits r.line = false → s.openBuffer r.line = some i →
      s.buffer i = .loading r.line n held →
      exec (.hostWrite t a beats) s =
        .next { s with
          table := s.table.set t (some (r.admitted m))
          buffers := s.buffers.set i (.loading r.line n (held ++ [t]))
          out := Outputs.none }) ∧
    (s.writeWaits r.line = true ∨ (s.openBuffer r.line = none ∧ s.lowestFree = none) →
      ((∀ i, (s.buffer i).isFilling = false) →
        exec (.hostWrite t a beats) s =
          .next { s with
            table := s.table.set t (some (r.admitted m))
            waitList := s.waitList ++ [t]
            out := Outputs.none }) ∧
      ∀ (i : BufIx) (l : LineAddr) (n : Nat) (body : LineBody) (p : Option BufIx) (due : Option Nat),
        s.buffer i = .filling l n body p due →
        (∀ j, j ≠ i → (s.buffer j).isFilling = true → ∃ k, (s.buffer j).openNumber? = some k ∧ n < k) →
        (s.block l.global).erase ≠ .pending →
        let x := s.die l.die
        (({ x with workQueue := x.workQueue ++ [WorkEntry.program i] }).atRest = true →
          exec (.hostWrite t a beats) s =
            .next { s with
              table := s.table.set t (some (r.admitted m))
              waitList := s.waitList ++ [t]
              buffers := s.buffers.set i (.posted l n body p)
              dies := s.dies.set l.die { x with workQueue := x.workQueue ++ [WorkEntry.program i] }
              out := Outputs.none }) ∧
        (x.state = .ready → p = none → s.settings.guardInterval ≠ 0 →
          exec (.hostWrite t a beats) s =
            .next { s with
              table := s.table.set t (some (r.admitted m))
              waitList := s.waitList ++ [t]
              buffers := s.buffers.set i (.programming l n body 0)
              blocks := s.blocks.set l.global { s.block l.global with clean := false }
              dies := s.dies.set l.die
                { x with
                  state := .programming ⟨l.block, l.line, i⟩ (s.now + 3000)
                    (some (s.now + s.settings.guardInterval)) }
              out := ⟨[(l.die, .programLine l.block l.line body.image (wordMask body.written))], none, []⟩ }))

/-- Pressure posting posts the FILLING buffer with the lowest open number, and posts nothing where none is FILLING
(R24). -/
def Obligations.PressurePostsOldest : Prop :=
  ∀ s : State,
    (∀ (i : BufIx) (n : Nat) (l : LineAddr) (body : LineBody) (p : Option BufIx) (due : Option Nat),
      s.buffer i = .filling l n body p due →
      (∀ j, j ≠ i → (s.buffer j).isFilling = true → ∃ k, (s.buffer j).openNumber? = some k ∧ n < k) →
      s.pressurePost = s.post i) ∧
    ((∀ i, (s.buffer i).isFilling = false) → s.pressurePost = s)

/-- A write covers byte position `p` of its line exactly when the enable of the byte of the beat that stands there is
set, and that byte is then the one it writes (R1, R138). -/
def Obligations.WriteCoversEnabledBytes : Prop :=
  ∀ (r : Request) (beats : List Beat) (k : Nat) (b : Beat) (j : Fin 8), r.payload = .write beats →
    beats[k]? = some b →
    r.covers (r.position.val + 8 * k + j.val) = b.enables.getLsbD j.val ∧
      r.byteAt (r.position.val + 8 * k + j.val) = b.data[j] ∧
      (∀ p, p < r.position.val ∨ r.position.val + 8 * beats.length ≤ p → r.covers p = false)

/-- A write passes the COMBINE check exactly when every bit that is one in a covered byte is one in the base byte, and
the APPEND_ONCE check exactly when every covered byte is 0xFF in the base and its position is not in the written set
(R45, R46). -/
def Obligations.ConflictCheckRules : Prop :=
  ∀ (r : Request) (body : LineBody),
    (r.fits .combine body = true ↔
      ∀ p : Fin 64, r.covers p.val = true →
        ∀ k : Fin 8, (r.byteAt p.val).getLsbD k.val = true → (body.base[p]).getLsbD k.val = true) ∧
    (r.fits .appendOnce body = true ↔
      ∀ p : Fin 64, r.covers p.val = true → body.base[p] = 0xFF ∧ body.written[p] = false)

/-- A merge overlays every covered byte on the image, adds its position to the written set, and changes no other byte,
no other position and not the base (R10). -/
def Obligations.MergeOverlaysCoveredBytes : Prop :=
  ∀ (r : Request) (body : LineBody), (body.overlay r).base = body.base ∧
    ∀ p : Fin 64,
      (body.overlay r).image[p] = (if r.covers p.val = true then r.byteAt p.val else body.image[p]) ∧
      (body.overlay r).written[p] = (body.written[p] || r.covers p.val)

/-- A read that no write of its line and no erase holds back is answered at once: from the image of the FILLING or
POSTED buffer that holds its line, also where a PROGRAMMING buffer holds the line behind it; from the image of the
PROGRAMMING buffer that alone holds it; with all 0xFF in a clean block; or FAULT(DIE_OFFLINE) where its die is OFFLINE.
Nothing else changes (R53, R54, R60, R62, R63). -/
def Obligations.ReadAnsweredAtOnce : Prop :=
  ∀ (t : Tag) (a : BitVec 27) (n : Nat) (s : State), s.accepts t a n →
    let r := s.newRead a n
    let answered (code : RespCode) (data : Option (List Byte)) : Prop :=
      exec (.hostRead t a n) s =
        .next { s with responses := s.responses ++ [⟨t, code, data⟩], out := Outputs.none }
    let bytes (line : LineImage) : Option (List Byte) := some ((line.toList.drop (a.toNat % 64)).take (8 * n))
    s.PoolLaw → s.tagFree t r.line → s.writeWaits r.line = false → s.loadingBuffer r.line = none →
    (s.block r.line.global).erase = .none →
    (∀ (i : BufIx) (k : Nat) (body : LineBody) (p : Option BufIx) (due : Option Nat),
      s.buffer i = .filling r.line k body p due ∨ s.buffer i = .posted r.line k body p →
      answered .ok (bytes body.image)) ∧
    (∀ (i : BufIx) (k : Nat) (body : LineBody) (attempt : Fin 2), s.buffer i = .programming r.line k body attempt →
      (∀ j, j ≠ i → (s.buffer j).line? ≠ some r.line) → answered .ok (bytes body.image)) ∧
    ((∀ j, (s.buffer j).line? ≠ some r.line) →
      ((s.block r.line.global).clean = true → answered .ok (some (List.replicate (8 * n) 0xFF))) ∧
      ((s.block r.line.global).clean = false → (s.die r.line.die).isOffline = true →
        answered (.fault .dieOffline) none))

/-- A read waits, unanswered, behind what is ahead of it: in the buffer wait list behind a waiting write of its line,
in the held list of its line's LOADING buffer, or in the hold list of a block under erase, there also behind a held
write of its line though a LOADING buffer holds that line. It is the last in the order of acceptance of the outstanding
requests (R53, R56 to R58; R138 for the order, whose numbers are the model's own, log entry 31). -/
def Obligations.ReadWaits : Prop :=
  ∀ (t : Tag) (a : BitVec 27) (n : Nat) (s : State), s.accepts t a n →
    let r := s.newRead a n
    let b := s.block r.line.global
    s.tagFree t r.line →
    (∀ t' r', s.request t' = some r' → r'.order < r.order) ∧
    (s.writeWaits r.line = true →
      exec (.hostRead t a n) s =
        .next { s with
          table := s.table.set t (some r), waitList := s.waitList ++ [t], out := Outputs.none }) ∧
    (∀ (i : BufIx) (k : Nat) (held : List Tag), s.writeWaits r.line = false → s.writeHeldInBlock r.line = false →
      s.openBuffer r.line = some i → s.buffer i = .loading r.line k held →
      exec (.hostRead t a n) s =
        .next { s with
          table := s.table.set t (some r), buffers := s.buffers.set i (.loading r.line k (held ++ [t]))
          out := Outputs.none }) ∧
    (s.writeWaits r.line = false → s.writeHeldInBlock r.line = true ∨ s.loadingBuffer r.line = none →
      b.erase ≠ .none →
      exec (.hostRead t a n) s =
        .next { s with
          table := s.table.set t (some r)
          blocks := s.blocks.set r.line.global { b with holdList := b.holdList ++ [t] }
          out := Outputs.none })

/-- A read that only the array can answer joins the tail of its die's read queue. On a READY die it is sent at once as
READ_LINE with a limit of 8 µs; on a die whose program's or erase's guard has passed it brings HALT with a limit of
60 µs; on a busy die it waits (R64, R79, R85, R93). -/
def Obligations.ArrayReadIsSentHaltsOrWaits : Prop :=
  ∀ (t : Tag) (a : BitVec 27) (n : Nat) (s : State), s.accepts t a n →
    let r := s.newRead a n
    let x := s.die r.line.die
    let entry : ReadEntry := .hostRead r.line.block r.line.line (some t)
    s.tagFree t r.line → s.writeWaits r.line = false → s.loadingBuffer r.line = none →
    (s.block r.line.global).erase = .none → s.newestImage r.line = none → (s.block r.line.global).clean = false →
    (x.state = .ready → x.readQueue = [] →
      exec (.hostRead t a n) s =
        .next { s with
          table := s.table.set t (some r)
          dies := s.dies.set r.line.die { x with state := .reading entry (s.now + 8) }
          out := ⟨[(r.line.die, .readLine r.line.block r.line.line)], none, []⟩ }) ∧
    (∀ (op : ArrayOp) (due : Nat), x.state = op.runningState due none →
      exec (.hostRead t a n) s =
        .next { s with
          table := s.table.set t (some r)
          dies := s.dies.set r.line.die
            { x with state := .halting op due (s.now + 60), readQueue := x.readQueue ++ [entry] }
          out := ⟨[(r.line.die, .halt)], none, []⟩ }) ∧
    (∀ (op : ArrayOp) (due guard : Nat), x.state = op.runningState due (some guard) →
      exec (.hostRead t a n) s =
        .next { s with
          table := s.table.set t (some r)
          dies := s.dies.set r.line.die { x with readQueue := x.readQueue ++ [entry] }
          out := Outputs.none })

/-- RESPONSE_DELIVERY drives the head response on HRSP with its tag, its code and detail value and its read data, and
it leaves the response list (R147, R148, section 11.6). -/
def Obligations.HeadResponseIsDelivered : Prop :=
  ∀ (r : Response) (rest : List Response) (s : State), s.responses = r :: rest →
    ∀ code detail : BitVec 3,
    (match r.code with
      | .ok => code = 0 ∧ detail = 0
      | .refused .noRegion => code = 1 ∧ detail = 1
      | .refused .readOnly => code = 1 ∧ detail = 2
      | .refused .locked => code = 1 ∧ detail = 3
      | .refused .conflict => code = 1 ∧ detail = 4
      | .refused .writtenOnce => code = 1 ∧ detail = 5
      | .fault .address => code = 2 ∧ detail = 1
      | .fault .align => code = 2 ∧ detail = 2
      | .fault .dieOffline => code = 2 ∧ detail = 3
      | .fault .blockFailed => code = 2 ∧ detail = 4
      | .fault .duplicateTag => code = 2 ∧ detail = 5
      | .timeout => code = 3 ∧ detail = 0
      | .aborted => code = 4 ∧ detail = 0) →
    exec .responseDelivery s =
      .next { s with
        responses := rest
        out := ⟨[], some ⟨BitVec.ofNat 4 r.tag.val, code, detail, r.data.getD []⟩, []⟩ }

/-- When a request's hold timer runs out the request leaves its place, its entry is emptied and it is answered TIMEOUT;
the requests behind it keep their order, its buffer stays, and a READ_LINE that is outstanding for it stays
outstanding. Where a waiting write leaves the buffer wait list so, the read of its line behind it leaves the list too
where no other write of the line is ahead, and is answered from the image of the PROGRAMMING buffer that holds the
line, or sent to the array (R8, R26, R56, R65, R75, R145). An expiry row given before its point moves the time there
(log entry 3, the model's choice), and the TIMEOUT joins the response list ahead of the read's answer (log entry 25). -/
def Obligations.HoldTimerAnswersTimeout : Prop :=
  (∀ (t : Tag) (r : Request) (due : Nat) (s : State), s.request t = some r → r.holdDue = some due →
    r.payload.isWrite = false ∨ t ∉ s.waitList ∨ (∀ t' ∈ s.waitList, t' ≠ t → s.isForLine r.line t' = false) →
    s.atRest →
    ∃ u, exec (.holdTimerExpiry t) s = .next u ∧
      u = { s with
        now := max s.now due, table := s.table.set t none, responses := s.responses ++ [⟨t, .timeout, none⟩]
        waitList := s.waitList.filter (· != t), buffers := u.buffers, blocks := u.blocks, dies := u.dies
        out := Outputs.none } ∧
      (∀ i, u.buffer i =
        match s.buffer i with
        | .loading l n held => .loading l n (held.filter (· != t))
        | b => b) ∧
      (∀ g, u.block g =
        if g = r.line.global then { s.block g with holdList := (s.block g).holdList.filter (· != t) } else s.block g) ∧
      ∀ d, u.die d =
        if d = r.line.die then
          { s.die d with
            readQueue := (s.die d).readQueue.filter fun e => e.tag? != some t
            state :=
              match (s.die d).state with
              | .reading (.hostRead b l (some t')) limit =>
                .reading (.hostRead b l (if t' = t then none else some t')) limit
              | st => st }
        else s.die d) ∧
  ∀ (t t₂ : Tag) (w r : Request) (rest : List Tag) (due : Nat) (s : State),
    let x := s.die w.line.die
    let entry : ReadEntry := .hostRead w.line.block w.line.line (some t₂)
    s.waitList = t :: t₂ :: rest → t ≠ t₂ → s.request t = some w → w.payload.isWrite = true → w.holdDue = some due →
    s.request t₂ = some r → r.payload.isWrite = false → r.line = w.line →
    (∀ t' ∈ rest, s.isForLine w.line t' = false) → s.atRest → (s.block w.line.global).erase = .none →
    (∀ i, t ∉ (s.buffer i).held) → t ∉ (s.block w.line.global).holdList → t ∉ x.hostReads →
    s.openBuffer w.line = none →
    (∀ (j : BufIx) (n : Nat) (body : LineBody) (attempt : Fin 2), s.programmingBuffer w.line = some j →
      s.buffer j = .programming w.line n body attempt →
      exec (.holdTimerExpiry t) s =
        .next { s with
          now := max s.now due
          table := (s.table.set t none).set t₂ none
          responses := s.responses ++
            [⟨t, .timeout, none⟩,
              ⟨t₂, .ok, some ((body.image.toList.drop r.position.val).take (8 * r.payload.beats))⟩]
          waitList := rest
          out := Outputs.none }) ∧
    (s.programmingBuffer w.line = none → (s.block w.line.global).clean = false → x.state = .ready →
      exec (.holdTimerExpiry t) s =
        .next { s with
          now := max s.now due
          table := s.table.set t none
          responses := s.responses ++ [⟨t, .timeout, none⟩]
          waitList := rest
          dies := s.dies.set w.line.die { x with state := .reading entry (max s.now due + 8) }
          out := ⟨[(w.line.die, .readLine w.line.block w.line.line)], none, []⟩ })

/-- When a FILLING buffer's coalesce timer runs out the buffer is POSTED with its PROGRAM entry at the tail of its die's
work queue, or immediately ahead of its block's ERASE entry while the block is ERASE_PENDING; on a READY die with
nothing queued its program starts in the same happening, and its block is no longer clean (R12, R13, R15, R17, R80,
R85). An expiry row given before its point moves the time there (log entry 3, the model's choice). -/
def Obligations.CoalesceTimerPosts : Prop :=
  ∀ (i : BufIx) (l : LineAddr) (n : Nat) (body : LineBody) (p : Option BufIx) (due : Nat) (s : State),
    s.buffer i = .filling l n body p (some due) → s.othersAtRest l.die →
    let x := s.die l.die
    ((s.block l.global).erase ≠ .pending → ({ x with workQueue := x.workQueue ++ [WorkEntry.program i] }).atRest = true →
      exec (.coalesceTimerExpiry i) s =
        .next { s with
          now := max s.now due, buffers := s.buffers.set i (.posted l n body p)
          dies := s.dies.set l.die { x with workQueue := x.workQueue ++ [WorkEntry.program i] }
          out := Outputs.none }) ∧
    (∀ (ahead behind : List WorkEntry) (tk : Ticket), (s.block l.global).erase = .pending →
      x.workQueue = ahead ++ .erase l.block tk :: behind → (∀ tk', WorkEntry.erase l.block tk' ∉ ahead) →
      x.atRest = true →
      exec (.coalesceTimerExpiry i) s =
        .next { s with
          now := max s.now due, buffers := s.buffers.set i (.posted l n body p)
          dies := s.dies.set l.die { x with workQueue := ahead ++ .program i :: .erase l.block tk :: behind }
          out := Outputs.none }) ∧
    (x.state = .ready → x.readQueue = [] → x.workQueue = [] → p = none → s.settings.guardInterval ≠ 0 →
      exec (.coalesceTimerExpiry i) s =
        .next { s with
          now := max s.now due, buffers := s.buffers.set i (.programming l n body 0)
          blocks := s.blocks.set l.global { s.block l.global with clean := false }
          dies := s.dies.set l.die
            { x with
              state := .programming ⟨l.block, l.line, i⟩ (max s.now due + 3000)
                (some (max s.now due + s.settings.guardInterval)) }
          out := ⟨[(l.die, .programLine l.block l.line body.image (wordMask body.written))], none, []⟩ })

/-! ## What the dies send -/

/-- LINE_DATA for a host read answers it OK with its beats of the line, and a read that was answered already has its
bytes dropped. The die is READY again, or sends the next read of its queue, or with a halt context waits out the
hold-off (R54, R76, R79, R97, R98). -/
def Obligations.LineDataAnswersHostRead : Prop :=
  ∀ (d : DieIx) (data : LineImage) (b : BlockIx) (l : LineIx) (tag : Option Tag) (due : Nat) (s : State),
    let x := s.die d
    x.state = .reading (.hostRead b l tag) due → s.othersAtRest d →
    (∀ t r, tag = some t → s.request t = some r → x.context = [] → x.readQueue = [] → x.workQueue = [] →
      exec (.lineData d data) s =
        .next { s with
          table := s.table.set t none
          responses := s.responses ++
            [⟨t, .ok, some ((data.toList.drop r.position.val).take (8 * r.payload.beats))⟩]
          dies := s.dies.set d { x with state := .ready }
          out := Outputs.none }) ∧
    (∀ e rest, tag = none → x.readQueue = e :: rest →
      exec (.lineData d data) s =
        .next { s with
          dies := s.dies.set d { x with state := .reading e (s.now + 8), readQueue := rest }
          out := ⟨[(d, .readLine e.place.1 e.place.2)], none, []⟩ }) ∧
    (tag = none → x.readQueue = [] → x.context ≠ [] → s.settings.holdOff ≠ 0 →
      exec (.lineData d data) s =
        .next { s with
          dies := s.dies.set d { x with state := .halted (some (s.now + s.settings.holdOff)) }
          out := Outputs.none })

/-- LINE_DATA for a base load sets base and image and takes the held list in order: each write is judged against the
base, and merged and answered OK or refused, and each read is answered from the image as the writes ahead of it have
left it. With something merged the buffer is FILLING, or, where a posting cause holds, its program starts at once on
the idle die; with nothing merged the buffer is FREE, and its flushes count it (R9, R10, R14, R28, R76). -/
def Obligations.LineDataLoadsBase : Prop :=
  ∀ (d : DieIx) (data : LineImage) (b : BlockIx) (k : LineIx) (i : BufIx) (due : Nat) (line : LineAddr) (n : Nat)
    (pairs : List (Tag × Request)) (s : State),
    let x := s.die d
    let held := pairs.map Prod.fst
    let met := meetInOrder (fun r => r.mode.getD .combine) (.fresh data) pairs
    x.state = .reading (.baseLoad b k i) due → s.othersAtRest d →
    x.context = [] → x.readQueue = [] → x.workQueue = [] → s.buffer i = .loading line n held → held.Nodup →
    (∀ q ∈ pairs, s.request q.1 = some q.2 ∧ (q.2.payload.isWrite = true → q.2.mode ≠ none)) →
    ((∃ p : Fin 64, met.1.written[p] = true) → ¬ s.postsNow i line met.1 →
      ∃ u, exec (.lineData d data) s = .next u ∧
        u = { s with
          table := u.table
          responses := s.responses ++ met.2
          buffers := s.buffers.set i (.filling line n met.1 none (some (s.now + s.settings.coalesceWindow)))
          dies := s.dies.set d { x with state := .ready }
          out := Outputs.none } ∧
        ∀ t, u.request t = if t ∈ held then none else s.request t) ∧
    ((∃ p : Fin 64, met.1.written[p] = true) → s.postsNow i line met.1 → line.die = d →
      s.settings.guardInterval ≠ 0 →
      ∃ u, exec (.lineData d data) s = .next u ∧
        u = { s with
          table := u.table
          responses := s.responses ++ met.2
          buffers := s.buffers.set i (.programming line n met.1 0)
          blocks := s.blocks.set line.global { s.block line.global with clean := false }
          dies := s.dies.set d
            { x with
              state := .programming ⟨line.block, line.line, i⟩ (s.now + 3000)
                (some (s.now + s.settings.guardInterval)) }
          out := ⟨[(d, .programLine line.block line.line met.1.image (wordMask met.1.written))], none, []⟩ } ∧
        ∀ t, u.request t = if t ∈ held then none else s.request t) ∧
    ((∀ p : Fin 64, met.1.written[p] = false) → s.noWriteWaits →
      ∃ u, exec (.lineData d data) s = .next u ∧
        u = { s with
          table := u.table, responses := s.responses ++ met.2
          buffers := u.buffers, flushes := u.flushes, completions := u.completions
          dies := s.dies.set d { x with state := .ready }
          out := Outputs.none } ∧
        (∀ t, u.request t = if t ∈ held then none else s.request t) ∧
        (∀ j, u.buffer j = if j = i then .free else (s.buffer j).unlink i) ∧
        u.flushes = (s.flushes.map fun f => { f with members := f.members.filter (· != i) }).filter
          (fun f => f.members ≠ []) ∧
        u.completions = s.completions ++
          (s.flushes.filter fun f => f.members.all (· == i)).map fun f => ⟨f.ticket, .flush, .done, f.scope, none⟩)

/-- PROGRAM_END PASS frees the program's buffer, and a successor loses its link to it; a flush whose last member it was
completes DONE. With no write waiting the die is READY, or inside an erase halt with nothing to read or interleave
continues the erase. Where the first request of the buffer wait list is a write, it takes the freed buffer: on a line
with no base at hand as LOADING, with every other waiting request of the line behind it in the held list, no read among
them having a write of the line held ahead of it; in a clean block as FILLING, or POSTED ahead of the block's ERASE
entry while the block is ERASE_PENDING. The read behind it is answered from that image, but where a write of the line
that was accepted before the read stands in the block hold list, the read joins that list behind it, unanswered. A
write stopped by its re-check is answered and takes no buffer (R18, R25, R28, R40, R50, R53, R56, R58, R59, R82, R83,
R101, R103, R114, R143; log entry 30 for the read). -/
def Obligations.ProgramPassFreesBuffer : Prop :=
  (∀ (d : DieIx) (p : ProgramOp) (s : State),
    let x := s.die d
    x.runningProgram = some p → s.othersAtRest d → s.noWriteWaits → x.readQueue = [] → x.workQueue = [] →
    (x.context = [] ∨ (∃ c, x.context = [c] ∧ s.settings.guardInterval ≠ 0)) →
    ∃ u, exec (.programEndPass d) s = .next u ∧
      u = { s with
        buffers := u.buffers, flushes := u.flushes, completions := u.completions, dies := u.dies, out := u.out } ∧
      (∀ j, u.buffer j = if j = p.buffer then .free else (s.buffer j).unlink p.buffer) ∧
      u.flushes = (s.flushes.map fun f => { f with members := f.members.filter (· != p.buffer) }).filter
        (fun f => f.members ≠ []) ∧
      u.completions = s.completions ++
        (s.flushes.filter fun f => f.members.all (· == p.buffer)).map
          (fun f => ⟨f.ticket, .flush, .done, f.scope, none⟩) ∧
      (match x.context with
        | [] => u.dies = s.dies.set d { x with state := .ready } ∧ u.out = Outputs.none
        | c :: _ =>
          u.dies = s.dies.set d
            { x with
              state := c.op.runningState (s.now + c.budget) (some (s.now + s.settings.guardInterval)), context := [] } ∧
          u.out = ⟨[(d, .resume)], none, []⟩)) ∧
  ∀ (d : DieIx) (p : ProgramOp) (t : Tag) (rest : List Tag) (w : Request) (m : AdmittedMode) (s : State),
    let x := s.die d
    let l := w.line
    let y := s.die l.die
    let g := l.global
    let freed (j : BufIx) : Buffer := (s.buffer j).unlink p.buffer
    let ready := s.dies.set d { x with state := .ready }
    x.runningProgram = some p → s.othersAtRest d → x.context = [] → x.readQueue = [] → x.workQueue = [] →
    s.flushes = [] → (∀ j, (s.buffer j).isFree = false) → s.waitList = t :: rest → t ∉ rest →
    s.request t = some w → w.payload.isWrite = true → w.coversNothing = false → (s.block g).health = .healthy →
    (s.regionOf g).map RegionEntry.mode =
      some (match m with
        | .combine => .combine
        | .appendOnce => .appendOnce) →
    (s.block g).erase = .none ∨ w.mark = true → y.isOffline = false →
    (∀ j, j ≠ p.buffer → (s.buffer j).line? ≠ some l) →
    ((s.block g).lock = .opened → (s.block g).clean = false → l.die = d →
      (∀ t' ∈ rest, ∀ r', s.request t' = some r' → r'.line = l → r'.payload.isWrite = true →
        r'.coversNothing = false ∧ ((s.block g).erase = .none ∨ r'.mark = true)) →
      (∀ t' ∈ rest, ∀ r', s.request t' = some r' → r'.line = l → r'.payload.isWrite = false →
        s.writeHeldAhead r' = false) →
      ∃ u, exec (.programEndPass d) s = .next u ∧
        u = { s with
          table := u.table, buffers := u.buffers, openCounter := s.openCounter + 1
          waitList := rest.filter fun t' => !s.isForLine l t'
          dies := s.dies.set d { x with state := .reading (.baseLoad l.block l.line p.buffer) (s.now + 8) }
          out := ⟨[(d, .readLine l.block l.line)], none, []⟩ } ∧
        (∀ j, u.buffer j =
          if j = p.buffer then .loading l s.openCounter (t :: rest.filter (s.isForLine l)) else freed j) ∧
        ∀ t', u.request t' =
          if t' ∈ t :: rest ∧ s.isForLine l t' = true ∧ s.isWrite t' = true then
            (s.request t').map fun r' => { r' with mode := some m }
          else s.request t') ∧
    (∀ (t₂ : Tag) (r₂ : Request), (s.block g).lock = .opened → (s.block g).clean = true → rest = [t₂] →
      s.request t₂ = some r₂ → r₂.payload.isWrite = false → r₂.line = l →
      let body := (LineBody.fresh (Vector.replicate 64 0xFF)).overlay w
      let answers : List Response := [⟨t, .ok, none⟩,
        ⟨t₂, .ok, some ((body.image.toList.drop r₂.position.val).take (8 * r₂.payload.beats))⟩]
      (s.writeHeldAhead r₂ = false → ¬ s.postsNow p.buffer l body →
        ∃ u, exec (.programEndPass d) s = .next u ∧
          u = { s with
            table := (s.table.set t none).set t₂ none, responses := s.responses ++ answers, waitList := []
            buffers := u.buffers, openCounter := s.openCounter + 1, dies := ready, out := Outputs.none } ∧
          ∀ j, u.buffer j =
            if j = p.buffer then
              .filling l s.openCounter body none (some (s.now + s.settings.coalesceWindow))
            else freed j) ∧
      ∀ (ahead behind : List WorkEntry) (tk : Ticket), (s.block g).erase = .pending → l.die ≠ d →
        y.workQueue = ahead ++ .erase l.block tk :: behind → (∀ tk', WorkEntry.erase l.block tk' ∉ ahead) →
        let posted := ready.set l.die
          { y with workQueue := ahead ++ .program p.buffer :: .erase l.block tk :: behind }
        (s.writeHeldAhead r₂ = false →
          ∃ u, exec (.programEndPass d) s = .next u ∧
            u = { s with
              table := (s.table.set t none).set t₂ none, responses := s.responses ++ answers, waitList := []
              buffers := u.buffers, openCounter := s.openCounter + 1, dies := posted, out := Outputs.none } ∧
            ∀ j, u.buffer j = if j = p.buffer then .posted l s.openCounter body none else freed j) ∧
        (s.writeHeldAhead r₂ = true → r₂.mark = false → t ∉ (s.block g).holdList →
          ∃ u, exec (.programEndPass d) s = .next u ∧
            u = { s with
              table := s.table.set t none, responses := s.responses ++ [⟨t, .ok, none⟩], waitList := []
              blocks := s.blocks.set g { s.block g with holdList := (s.block g).holdList ++ [t₂] }
              buffers := u.buffers, openCounter := s.openCounter + 1, dies := posted, out := Outputs.none } ∧
            ∀ j, u.buffer j = if j = p.buffer then .posted l s.openCounter body none else freed j)) ∧
    ((s.block g).lock = .shut → rest = [] →
      ∃ u, exec (.programEndPass d) s = .next u ∧
        u = { s with
          table := s.table.set t none, responses := s.responses ++ [⟨t, .refused .locked, none⟩], waitList := []
          buffers := u.buffers, dies := ready, out := Outputs.none } ∧
        ∀ j, u.buffer j = if j = p.buffer then .free else freed j)

/-- PROGRAM_END FAIL on a first attempt keeps the buffer PROGRAMMING with attempt 1, records PROGRAM_RETRIED and queues
the retry at the head of the work queue. It starts at once with a fresh 3 000 µs budget; a waiting read is sent ahead
of it (R19, R80, R83, R85). -/
def Obligations.FirstProgramFailRetries : Prop :=
  ∀ (d : DieIx) (p : ProgramOp) (l : LineAddr) (n : Nat) (body : LineBody) (s : State),
    let x := s.die d
    x.runningProgram = some p → s.buffer p.buffer = .programming l n body 0 → l.die = d → x.context = [] →
    s.othersAtRest d → s.faultLog.length < 16 →
    (x.readQueue = [] → s.settings.guardInterval ≠ 0 →
      exec (.programEndFail d) s =
        .next { s with
          buffers := s.buffers.set p.buffer (.programming l n body 1)
          blocks := s.blocks.set l.global { s.block l.global with clean := false }
          faultLog := s.faultLog ++ [⟨s.sequence, .programRetried l⟩]
          sequence := s.sequence + 1
          dies := s.dies.set d
            { x with
              state := .programming ⟨l.block, l.line, p.buffer⟩ (s.now + 3000)
                (some (s.now + s.settings.guardInterval)) }
          out := ⟨[(d, .programLine l.block l.line body.image (wordMask body.written))], none, []⟩ }) ∧
    (∀ e rest, x.readQueue = e :: rest →
      exec (.programEndFail d) s =
        .next { s with
          buffers := s.buffers.set p.buffer (.programming l n body 1)
          faultLog := s.faultLog ++ [⟨s.sequence, .programRetried l⟩]
          sequence := s.sequence + 1
          dies := s.dies.set d
            { x with
              state := .reading e (s.now + 8), readQueue := rest, workQueue := .program p.buffer :: x.workQueue }
          out := ⟨[(d, .readLine e.place.1 e.place.2)], none, []⟩ })

/-- PROGRAM_END FAIL on the second attempt loses the line: LINE_LOST is written with the size of the written set and
the block becomes FAILED. Every other buffer of the block is discarded in increasing index: LINE_LOST for each that
holds written bytes, its PROGRAM entry removed; for a LOADING one the base load is withdrawn, each held write is
answered FAULT(BLOCK_FAILED) and each held read joins the die read queue, whose head is sent. All these buffers are
FREE and leave their flushes. A full log stores nothing, sets the overflow mark and still counts the sequence (R20,
R21, R28, R79, R170, R171). -/
def Obligations.FinalProgramFailLosesLine : Prop :=
  ∀ (d : DieIx) (p : ProgramOp) (l : LineAddr) (n : Nat) (body : LineBody) (s : State),
    let x := s.die d
    let gone (i : BufIx) : Bool := (s.buffer i).inBlock l.global
    let others := bufferIndices.filter fun i => i != p.buffer && gone i
    let held := others.flatMap fun i => (s.buffer i).held
    let writes := held.filter s.isWrite
    let reads := (x.readQueue.filter fun e => others.all fun i => !((s.buffer i).isLoading && e.isBaseLoadOf i)) ++
      (held.filter fun t => !s.isWrite t).filterMap fun t =>
        (s.request t).map fun r => .hostRead r.line.block r.line.line (some t)
    let work := x.workQueue.filter fun e => others.all fun i => (s.buffer i).isLoading || e != .program i
    let lost := others.filterMap fun i =>
      match (s.buffer i).line?, (s.buffer i).body? with
      | some k, some b => some (FaultBody.lineLost .blockFailed k (writtenCount b.written))
      | _, _ => none
    x.runningProgram = some p → s.buffer p.buffer = .programming l n body 1 → l.die = d → x.context = [] →
    (reads = [] → work = []) → s.othersAtRest d → s.noWriteWaits → s.PoolLaw → held.Nodup →
    (∀ t ∈ held, ∃ r, s.request t = some r ∧ r.line.die = d) →
    ∃ u, exec (.programEndFail d) s = .next u ∧
      u = { s.recorded (.lineLost .programFail l (writtenCount body.written) :: lost) with
        table := u.table
        responses := s.responses ++ writes.map fun t => ⟨t, .fault .blockFailed, none⟩
        buffers := u.buffers, flushes := u.flushes, completions := u.completions
        blocks := s.blocks.set l.global { s.block l.global with health := .failed }
        dies := s.dies.set d (match reads with
          | [] => { x with state := .ready, readQueue := [], workQueue := [] }
          | e :: rest => { x with state := .reading e (s.now + 8), readQueue := rest, workQueue := work })
        out := ⟨(match reads with
          | [] => []
          | e :: _ => [(d, .readLine e.place.1 e.place.2)]), none, []⟩ } ∧
      (∀ t, u.request t = if t ∈ writes then none else s.request t) ∧
      (∀ j, u.buffer j = if gone j then .free else s.buffer j) ∧
      u.flushes = (s.flushes.map fun f => { f with members := f.members.filter fun i => !gone i }).filter
        (fun f => f.members ≠ []) ∧
      u.completions = s.completions ++
        (s.flushes.filter fun f => f.members.all gone).map fun f => ⟨f.ticket, .flush, .done, f.scope, none⟩

/-- ERASE_END PASS makes the block HEALTHY, clean and NONE, records the completion DONE, and leaves the die READY with
an interleave count of 0. The pre-erase marks of the block end, and the hold list is released in order: held reads of
lines with no buffer are answered with 0xFF bytes; a held write that passes its re-check opens the lowest FREE buffer
of its line on 0xFF and the held requests of that line behind it meet it in order, or it joins the buffer wait list
where no buffer is FREE; and held writes of a SHUT block are refused (R40, R50, R51, R84, R119). -/
def Obligations.ErasePassMakesBlockClean : Prop :=
  ∀ (d : DieIx) (e : EraseOp) (pairs : List (Tag × Request)) (s : State),
    let x := s.die d
    let g := globalBlock d e.block
    let held := pairs.map Prod.fst
    let clean := s.blocks.set g ⟨(s.block g).lock, .healthy, .none, true, []⟩
    let unmarked (t : Tag) : Option Request :=
      (s.request t).map fun r => if r.line.global = g then { r with mark := false } else r
    let record : Completion := ⟨e.ticket, .erase, .done, .die d, some g⟩
    x.runningErase = some e → x.context = [] → x.readQueue = [] → x.workQueue = [] → s.othersAtRest d →
    s.noWriteWaits → s.flushesOpen → (s.block g).holdList = held → held.Nodup →
    (∀ q ∈ pairs, s.request q.1 = some q.2 ∧ q.2.line.global = g ∧ q.1 ∉ s.waitList) →
    ((∀ q ∈ pairs, q.2.payload.isWrite = false ∧ s.openBuffer q.2.line = none ∧
        s.programmingBuffer q.2.line = none) →
      ∃ u, exec (.eraseEndPass d) s = .next u ∧
        u = { s with
          blocks := clean
          table := u.table
          responses := s.responses ++ pairs.map fun q => ⟨q.1, .ok,
            some (((List.replicate 64 (0xFF : Byte)).drop q.2.position.val).take (8 * q.2.payload.beats))⟩
          completions := s.completions ++ [record]
          dies := s.dies.set d { x with state := .ready, interleave := 0 }
          out := Outputs.none } ∧
        ∀ t, u.request t = if t ∈ held then none else unmarked t) ∧
    (∀ (m : AdmittedMode) (l : LineAddr) (i : BufIx),
      let met := meetInOrder (fun _ => m) (.fresh (Vector.replicate 64 0xFF)) pairs
      (pairs.head?).map (fun q => q.2.payload.isWrite) = some true → (∀ q ∈ pairs, q.2.line = l) →
      (∀ q ∈ pairs, q.2.payload.isWrite = true → q.2.coversNothing = false) →
      (∀ j, (s.buffer j).line? ≠ some l) → s.lowestFree = some i → (s.block g).lock = .opened →
      (s.regionOf g).map RegionEntry.mode =
        some (match m with
          | .combine => .combine
          | .appendOnce => .appendOnce) →
      ¬ s.postsNow i l met.1 →
      ∃ u, exec (.eraseEndPass d) s = .next u ∧
        u = { s with
          blocks := clean
          table := u.table
          responses := s.responses ++ met.2
          buffers := s.buffers.set i
            (.filling l s.openCounter met.1 none (some (s.now + s.settings.coalesceWindow)))
          openCounter := s.openCounter + 1
          completions := s.completions ++ [record]
          dies := s.dies.set d { x with state := .ready, interleave := 0 }
          out := Outputs.none } ∧
        ∀ t, u.request t = if t ∈ held then none else unmarked t) ∧
    (∀ (t : Tag) (w : Request) (m : AdmittedMode), pairs = [(t, w)] → w.payload.isWrite = true →
      w.coversNothing = false → (s.block g).lock = .opened →
      (s.regionOf g).map RegionEntry.mode =
        some (match m with
          | .combine => .combine
          | .appendOnce => .appendOnce) →
      s.openBuffer w.line = none → s.lowestFree = none → (∀ j, (s.buffer j).isFilling = false) →
      ∃ u, exec (.eraseEndPass d) s = .next u ∧
        u = { s with
          blocks := clean
          table := u.table
          waitList := s.waitList ++ [t]
          completions := s.completions ++ [record]
          dies := s.dies.set d { x with state := .ready, interleave := 0 }
          out := Outputs.none } ∧
        ∀ t', u.request t' = if t' = t then some { w with mark := false, mode := some m } else unmarked t') ∧
    ((∀ q ∈ pairs, q.2.payload.isWrite = true) → (s.block g).lock = .shut →
      (s.regionOf g).map RegionEntry.mode = some .combine →
      ∃ u, exec (.eraseEndPass d) s = .next u ∧
        u = { s with
          blocks := clean
          table := u.table
          responses := s.responses ++ pairs.map fun q => ⟨q.1, .refused .locked, none⟩
          completions := s.completions ++ [record]
          dies := s.dies.set d { x with state := .ready, interleave := 0 }
          out := Outputs.none } ∧
        ∀ t, u.request t = if t ∈ held then none else unmarked t)

/-- ERASE_END FAIL makes the block FAILED and NONE, writes ERASE_FAIL and records the completion FAILED. The hold list
is settled in order: every held write is answered FAULT(BLOCK_FAILED), and every held read joins the die read queue,
whose head is sent. With no held read the die is READY; its interleave count is 0 (R79, R84, R120). -/
def Obligations.EraseFailMakesBlockFailed : Prop :=
  ∀ (d : DieIx) (e : EraseOp) (s : State),
    let x := s.die d
    let g := globalBlock d e.block
    let held := (s.block g).holdList
    let writes := held.filter s.isWrite
    let reads := (held.filter fun t => !s.isWrite t).filterMap fun t =>
      (s.request t).map fun r => ReadEntry.hostRead r.line.block r.line.line (some t)
    x.runningErase = some e → x.context = [] → x.readQueue = [] → x.workQueue = [] → s.othersAtRest d →
    held.Nodup → (∀ t ∈ held, ∃ r, s.request t = some r ∧ r.line.global = g) →
    ∃ u, exec (.eraseEndFail d) s = .next u ∧
      u = { s.recorded [.eraseFail d e.block] with
        blocks := s.blocks.set g ⟨(s.block g).lock, .failed, .none, false, []⟩
        table := u.table
        responses := s.responses ++ writes.map fun t => ⟨t, .fault .blockFailed, none⟩
        completions := s.completions ++ [⟨e.ticket, .erase, .failed, .die d, some g⟩]
        dies := s.dies.set d (match reads with
          | [] => { x with state := .ready, interleave := 0 }
          | r :: rest => { x with state := .reading r (s.now + 8), readQueue := rest, interleave := 0 })
        out := ⟨(match reads with
          | [] => []
          | r :: _ => [(d, .readLine r.place.1 r.place.2)]), none, []⟩ } ∧
      ∀ t, u.request t =
        if t ∈ writes then none
        else (s.request t).map fun r => if r.line.global = g then { r with mark := false } else r

/-- HALTED pushes the operation on the halt context with its remaining budget, and sets the interleave count to 0 for an
erase. A waiting read is then sent; with none, the hold-off timer starts (R95, R96, R98, R104). -/
def Obligations.HaltedPushesContext : Prop :=
  ∀ (d : DieIx) (op : ArrayOp) (due haltDue : Nat) (s : State),
    let x := s.die d
    let count := (match op with
      | .erase _ => 0
      | .program _ => x.interleave)
    x.state = .halting op due haltDue → s.othersAtRest d →
    (x.readQueue = [] → s.settings.holdOff ≠ 0 →
      exec (.halted d) s =
        .next { s with
          dies := s.dies.set d
            ⟨.halted (some (s.now + s.settings.holdOff)), [], x.workQueue, x.context ++ [⟨op, due - s.now⟩], count⟩
          out := Outputs.none }) ∧
    (∀ e rest, x.readQueue = e :: rest →
      exec (.halted d) s =
        .next { s with
          dies := s.dies.set d
            ⟨.reading e (s.now + 8), rest, x.workQueue, x.context ++ [⟨op, due - s.now⟩], count⟩
          out := ⟨[(d, .readLine e.place.1 e.place.2)], none, []⟩ })

/-- RESET_END makes a STARTING die READY, and its reset limit makes it OFFLINE with a DIE_TIMEOUT record; start-up or
the channel reset ends where no fitted die is left STARTING. A restarted die becomes READY and its restart completes
DONE, or stays OFFLINE and it completes FAILED (R73, R86, R89, R90, R178). An expiry row given before its point moves
the time there (log entry 3), and the expiry of a reset limit settles nothing else (log entry 26): the model's
choices. -/
def Obligations.DieResetEnds : Prop :=
  ∀ (d : DieIx) (due : Nat) (s : State),
    let x := s.die d
    let mode := if ∃ d' : DieIx, d' ≠ d ∧ s.fitted d' = true ∧ (s.die d').isStarting = true then s.mode else .running
    (x.state = .starting (some due) → x.readQueue = [] → x.workQueue = [] →
      exec (.resetEnd d) s =
        .next { s with mode := mode, dies := s.dies.set d { x with state := .ready }, out := Outputs.none }) ∧
    (x.state = .starting (some due) →
      exec (.resetLimitExpiry d) s =
        .next { s.recorded [.dieTimeout .reset d none none] with
          now := max s.now due, mode := mode, dies := s.dies.set d { x with state := .offline none }
          out := Outputs.none }) ∧
    (∀ t, x.state = .offline (some (t, due)) →
      exec (.resetEnd d) s =
        .next { s with
          dies := s.dies.set d ⟨.ready, [], [], [], 0⟩
          completions := s.completions ++ [⟨t, .dieRestart, .done, .die d, none⟩]
          out := Outputs.none }) ∧
    ∀ t, x.state = .offline (some (t, due)) →
      exec (.resetLimitExpiry d) s =
        .next { s.recorded [.dieTimeout .reset d none none] with
          now := max s.now due, dies := s.dies.set d { x with state := .offline none }
          completions := s.completions ++ [⟨t, .dieRestart, .failed, .die d, none⟩]
          out := Outputs.none }

/-- An operation limit that runs out takes the die OFFLINE with its queues and halt context empty and a DIE_TIMEOUT
record of its kind. The blocks of the operations that were running, being halted or halted become FAILED. Every request
that waits on the die is answered FAULT(DIE_OFFLINE); every buffer of the die is discarded, with a LINE_LOST record of
cause DIE_OFFLINE for each that holds written bytes; every erase of the die completes FAILED, the running one first;
and the flushes of the freed buffers count them (R21, R28, R85 to R87, R123). An expiry row given before its point
moves the time there (log entry 3, the model's choice). -/
def Obligations.OperationLimitTakesDieOffline : Prop :=
  ∀ (d : DieIx) (kind : LimitKind) (due : Nat) (report : FaultBody) (s : State),
    let x := s.die d
    let gone (i : BufIx) : Bool := (s.buffer i).inDie d
    let failed (g : GlobalBlock) : Bool := x.operations.any fun op => op.block == blockOf g
    let lost := bufferIndices.filterMap fun i =>
      match (s.buffer i).line?, (s.buffer i).body? with
      | some l, some b => if l.die = d then some (FaultBody.lineLost .dieOffline l (writtenCount b.written)) else none
      | _, _ => none
    ((∃ e, x.state = .reading e due ∧ kind = .read ∧
        report = .dieTimeout .read d (some e.place.1) (some e.place.2)) ∨
      (∃ p, ((∃ guard, x.state = .programming p due guard) ∨ ∃ haltDue, x.state = .halting (.program p) due haltDue) ∧
        kind = .program ∧ report = .dieTimeout .program d (some p.block) (some p.line)) ∨
      (∃ e, ((∃ guard, x.state = .erasing e due guard) ∨ ∃ haltDue, x.state = .halting (.erase e) due haltDue) ∧
        kind = .erase ∧ report = .dieTimeout .erase d (some e.block) none) ∨
      (∃ p own, x.state = .halting (.program p) own due ∧ kind = .halt ∧
        report = .dieTimeout .halt d (some p.block) (some p.line)) ∨
      ∃ e own, x.state = .halting (.erase e) own due ∧ kind = .halt ∧
        report = .dieTimeout .halt d (some e.block) none) →
    s.othersAtRest d → s.PoolLaw → (s.waitingOnDie d).Nodup →
    (∀ t, s.isForDie d t = true ↔ t ∈ s.waitingOnDie d) →
    (∀ t ∈ s.waitList, s.isWrite t = true → s.isForDie d t = true) →
    ∃ u, exec (.operationLimitExpiry d kind) s = .next u ∧
      u = { s.recorded (report :: lost) with
        now := max s.now due
        table := u.table
        responses := s.responses ++ (s.waitingOnDie d).map fun t => ⟨t, .fault .dieOffline, none⟩
        waitList := s.waitList.filter fun t => !s.isForDie d t
        buffers := u.buffers, flushes := u.flushes, blocks := u.blocks
        dies := s.dies.set d ⟨.offline none, [], [], [], 0⟩
        completions := s.completions
          ++ (x.admittedErases.map fun e => ⟨e.ticket, .erase, .failed, .die d, some (globalBlock d e.block)⟩)
          ++ (s.flushes.filter fun f => f.members.all gone).map fun f => ⟨f.ticket, .flush, .done, f.scope, none⟩
        out := Outputs.none } ∧
      (∀ t, u.request t = if s.isForDie d t then none else s.request t) ∧
      (∀ j, u.buffer j = if gone j then .free else s.buffer j) ∧
      u.flushes = (s.flushes.map fun f => { f with members := f.members.filter fun i => !gone i }).filter
        (fun f => f.members ≠ []) ∧
      ∀ g, u.block g =
        if dieOf g = d then
          ⟨(s.block g).lock, if failed g then .failed else (s.block g).health,
            if ∃ e ∈ x.admittedErases, e.block = blockOf g then .none else (s.block g).erase,
            if failed g then false else (s.block g).clean, []⟩
        else s.block g

/-- When the guard timer runs out, HALT is sent if an unsent read waits, with a limit of 60 µs and the operation's own
limit running on; with none the guard has passed and the operation runs on (R92, R93). An expiry row given before its
point moves the time there (log entry 3, the model's choice). -/
def Obligations.GuardExpiryHaltsForRead : Prop :=
  ∀ (d : DieIx) (op : ArrayOp) (due guard : Nat) (s : State),
    let x := s.die d
    x.state = op.runningState due (some guard) →
    (x.readQueue ≠ [] →
      exec (.guardExpiry d) s =
        .next { s with
          now := max s.now guard, dies := s.dies.set d { x with state := .halting op due (max s.now guard + 60) }
          out := ⟨[(d, .halt)], none, []⟩ }) ∧
    (x.readQueue = [] →
      exec (.guardExpiry d) s =
        .next { s with
          now := max s.now guard, dies := s.dies.set d { x with state := op.runningState due none }
          out := Outputs.none })

/-- When the hold-off timer runs out, the program at the head of the work queue starts inside an erase halt where it is
of another block, holds no predecessor link, and the count is below the budget, which raises the count; a retry starts
so too. Otherwise CONTINUE resumes the top operation from its stored budget. Either starts the guard timer, which has
passed at once with a guard interval of 0 (R92, R98 to R101, R103). An expiry row given before its point moves the
time there (log entry 3, the model's choice). -/
def Obligations.HoldOffDecision : Prop :=
  ∀ (d : DieIx) (due : Nat) (s : State),
    let x := s.die d
    let now := max s.now due
    let guard := if s.settings.guardInterval = 0 then none else some (now + s.settings.guardInterval)
    x.state = .halted (some due) →
    (∀ rest c, x.context = rest ++ [c] →
      (rest ≠ [] ∨ (∃ p, c.op = .program p) ∨ (∀ i more, x.workQueue ≠ .program i :: more) ∨
        s.settings.interleaveBudget ≤ x.interleave ∨
        ∃ i more, x.workQueue = .program i :: more ∧
          ((s.buffer i).predecessor? ≠ none ∨ (s.buffer i).inBlock (globalBlock d c.op.block) = true)) →
      exec (.holdOffExpiry d) s =
        .next { s with
          now := now, out := ⟨[(d, .resume)], none, []⟩
          dies := s.dies.set d { x with state := c.op.runningState (now + c.budget) guard, context := rest } }) ∧
    ∀ e budget i more l n body attempt, x.context = [⟨.erase e, budget⟩] → x.workQueue = .program i :: more →
      (s.buffer i = .posted l n body none ∧ attempt = 0 ∨ s.buffer i = .programming l n body attempt) → l.die = d →
      l.block ≠ e.block → x.interleave < s.settings.interleaveBudget →
      exec (.holdOffExpiry d) s =
        .next { s with
          now := now, out := ⟨[(d, .programLine l.block l.line body.image (wordMask body.written))], none, []⟩
          buffers := s.buffers.set i (.programming l n body attempt)
          blocks := s.blocks.set l.global { s.block l.global with clean := false }
          dies := s.dies.set d
            { x with
              state := .programming ⟨l.block, l.line, i⟩ (now + 3000) guard, workQueue := more
              interleave := x.interleave + 1 } }

/-- A message from a die that its controller does not wait for is dropped and changes nothing: LINE_DATA with no
READ_LINE outstanding, an END with no such operation running or being halted, HALTED with no HALT outstanding, and
RESET_END that neither a STARTING die nor a restart awaits (R69). -/
def Obligations.UnawaitedMessagesDropped : Prop :=
  ∀ (d : DieIx) (data : LineImage) (s : State),
    let x := s.die d
    let unchanged : Host.Outcome State Fault Refusal := .next { s with out := Outputs.none }
    ((∀ e due, x.state ≠ .reading e due) → exec (.lineData d data) s = unchanged) ∧
    ((∀ p due guard, x.state ≠ .programming p due guard) → (∀ p due h, x.state ≠ .halting (.program p) due h) →
      exec (.programEndPass d) s = unchanged ∧ exec (.programEndFail d) s = unchanged) ∧
    ((∀ e due guard, x.state ≠ .erasing e due guard) → (∀ e due h, x.state ≠ .halting (.erase e) due h) →
      exec (.eraseEndPass d) s = unchanged ∧ exec (.eraseEndFail d) s = unchanged) ∧
    ((∀ op due h, x.state ≠ .halting op due h) → exec (.halted d) s = unchanged) ∧
    ((∀ due, x.state ≠ .starting (some due)) → (∀ t due, x.state ≠ .offline (some (t, due))) →
      exec (.resetEnd d) s = unchanged)

/-! ## The management port -/

/-- A command frame is taken as the command in execution, its reply NOT_READY under its own command byte, or, while
another is in execution, discarded with the dropped mark; while RSTN is low and without a complete byte a frame has no
effect, and a frame whose first byte is 0x00 is a reply frame. A malformed frame completes as REFUSED(BAD_COMMAND). A
reply frame shifts the stored reply out after one filler byte, its command byte, its status code with the dropped mark
in bit 7, its reason code, its field length and its fields, and changes no state (R151 to R155, R183, R185, section
11.2). -/
def Obligations.FramesAreTakenOrDropped : Prop :=
  ∀ (b : Byte) (args : List Byte) (partialByte : Bool) (n : Nat) (s : State),
    (b ≠ 0 → s.rstnLow = false → s.executing = none →
      exec (.commandFrame (b :: args) partialByte) s =
        .next { s with
          reply := ⟨b, .notReady, false, []⟩, executing := some ⟨parseFrame b args partialByte, s.now + 5⟩
          out := Outputs.none }) ∧
    (b ≠ 0 → s.rstnLow = false → s.executing ≠ none →
      exec (.commandFrame (b :: args) partialByte) s =
        .next { s with reply := { s.reply with dropped := true }, out := Outputs.none }) ∧
    exec (.commandFrame [] partialByte) s = .next { s with out := Outputs.none } ∧
    exec (.commandFrame (0 :: args) partialByte) s = exec (.replyFrame (args.length + 1)) s ∧
    (s.rstnLow = true →
      exec (.commandFrame (b :: args) partialByte) s = .next { s with out := Outputs.none } ∧
        exec (.replyFrame n) s = .next { s with out := Outputs.none }) ∧
    (∀ status reason : Byte, s.rstnLow = false →
      (match s.reply.status with
        | .done => status = 0x01 ∧ reason = 0x00
        | .accepted => status = 0x02 ∧ reason = 0x00
        | .notReady => status = 0x03 ∧ reason = 0x00
        | .refused .badCommand => status = 0x04 ∧ reason = 0x01
        | .refused .badArgument => status = 0x04 ∧ reason = 0x02
        | .refused .pinned => status = 0x04 ∧ reason = 0x03
        | .refused .ceilingProtected => status = 0x04 ∧ reason = 0x04
        | .refused .eraseNotPermitted => status = 0x04 ∧ reason = 0x05
        | .refused .blockShut => status = 0x04 ∧ reason = 0x06
        | .refused .alreadyPending => status = 0x04 ∧ reason = 0x07
        | .refused .dieOffline => status = 0x04 ∧ reason = 0x08
        | .refused .dieNotOffline => status = 0x04 ∧ reason = 0x09
        | .refused .listFull => status = 0x04 ∧ reason = 0x0A
        | .refused .overlap => status = 0x04 ∧ reason = 0x0B
        | .refused .starting => status = 0x04 ∧ reason = 0x0C
        | .refused .resetting => status = 0x04 ∧ reason = 0x0D) →
      exec (.replyFrame n) s =
        .next { s with
          out := ⟨[], none,
            (([0xFF, s.reply.commandByte, status + (if s.reply.dropped then 0x80 else 0x00), reason,
                BitVec.ofNat 8 s.reply.fields.length] ++ s.reply.fields) ++ List.replicate n 0xFF).take n⟩ }) ∧
    (b ≠ 0 → s.completing (.malformed b) →
      exec (.malformedFrame b) s =
        .next { s.replied (.malformed b) (.refused .badCommand) [] with out := Outputs.none })

/-- A command's row with no command in execution is its frame taken and completed with nothing between; with another in
execution it is a frame that is discarded (R152, R154; log entry 4). -/
def Obligations.CompletionRowsRun : Prop :=
  ∀ (c : MgmtCommand) (s : State), c ≠ .malformed 0 → s.rstnLow = false →
    (s.executing = none →
      exec c.completion s = exec c.completion { s with
        reply := ⟨c.commandByte, .notReady, false, []⟩, executing := some ⟨c, s.now + 5⟩ }) ∧
    (∀ x, s.executing = some x → x.command ≠ c →
      exec c.completion s = .next { s with reply := { s.reply with dropped := true }, out := Outputs.none })

/-- STATUS is answered DONE in every part mode with the summary of the part, and changes nothing else (R157, section
11.3). -/
def Obligations.StatusReportsPart : Prop :=
  ∀ s : State, s.completing .status →
    let modeCode : Byte :=
      match s.mode with
      | .running => 0x00
      | .starting => 0x01
      | .resetting => 0x02
    let dieCode (d : DieIx) : Byte :=
      match (s.die d).state with
      | .starting _ => 0x00
      | .ready => 0x01
      | .reading _ _ => 0x02
      | .programming _ _ _ => 0x03
      | .erasing _ _ _ => 0x04
      | .halting _ _ _ => 0x05
      | .halted _ => 0x06
      | .offline _ => 0x07
      | .absent => 0x0F
    exec .status s =
      .next { s.replied .status .done
        [modeCode, byte s.fittedDies, dieCode 0, dieCode 1, dieCode 2, dieCode 3,
          byte (s.countBuffers Buffer.isFree), byte (s.countBuffers Buffer.isLoading),
          byte (s.countBuffers Buffer.isFilling), byte (s.countBuffers Buffer.isPosted),
          byte (s.countBuffers Buffer.isProgramming), byte s.waitList.length, byte s.faultLog.length,
          byte ((if s.overflow then 1 else 0) + (if s.protn then 2 else 0)), byte s.completions.length,
          byte s.outstandingTickets.length] with out := Outputs.none }

/-- REGION_READ returns one region entry with all six fields as stored, in every part mode, refuses an index above 7
with BAD_ARGUMENT, and changes nothing (R34). -/
def Obligations.RegionReadReturnsEntry : Prop :=
  ∀ (index : Byte) (s : State), s.completing (.regionRead index) →
    (∀ i : Fin 8, index.toNat = i.val →
      let e := s.regions[i]
      let validCode : Byte := if e.valid then 0x01 else 0x00
      let modeCode : Byte := match e.mode with
        | .readOnly => 0x00
        | .combine => 0x01
        | .appendOnce => 0x02
      let permittedCode : Byte := if e.erasePermitted then 0x01 else 0x00
      let postingCode : Byte := match e.posting with
        | .window => 0x00
        | .atOnce => 0x01
      exec (.regionRead index) s =
        .next { s.replied (.regionRead index) .done
          ([index, validCode] ++ twoBytes e.first.val ++ twoBytes e.last.val ++ [modeCode, permittedCode, postingCode])
          with out := Outputs.none }) ∧
    (7 < index.toNat →
      exec (.regionRead index) s =
        .next { s.replied (.regionRead index) (.refused .badArgument) [] with out := Outputs.none })

/-- BLOCK_QUERY, BUFFER_QUERY, DIE_QUERY and CONFIG_READ are answered DONE in every part mode with their fields as they
stand, written out here byte by byte, or refused with BAD_ARGUMENT for an index out of range or on an absent die; they
change nothing else (R156, R158, R159, section 11.3). -/
def Obligations.DetailQueriesReport : Prop :=
  ∀ s : State,
    (∀ block, s.completing (.blockQuery block) →
      (∀ g : GlobalBlock, block.toNat = g.val → g.val < s.fittedDies * 256 →
        let r := s.block g
        let holders := bufferIndices.filter fun i => (s.buffer i).line?.map LineAddr.global = some g
        let flags := (if r.lock = .opened then 1 else 0) + (if g.val % 256 < (s.ceilings[dieOf g]).val then 2 else 0)
          + (if r.health = .failed then 4 else 0) + (if r.clean then 8 else 0)
        let erase : Byte :=
          match r.erase with
          | .none => 0x00
          | .pending => 0x01
          | .erasing => 0x02
        exec (.blockQuery block) s =
          .next { s.replied (.blockQuery block) .done
            ([BitVec.ofNat 8 flags, erase, BitVec.ofNat 8 r.holdList.length, BitVec.ofNat 8 holders.length]
              ++ holders.map fun i => BitVec.ofNat 8 i.val) with out := Outputs.none }) ∧
      (s.fittedDies * 256 ≤ block.toNat →
        exec (.blockQuery block) s =
          .next { s.replied (.blockQuery block) (.refused .badArgument) [] with out := Outputs.none })) ∧
    (∀ index, s.completing (.bufferQuery index) →
      (∀ i : BufIx, index.toNat = i.val →
        let fields (state presence : Byte) (l : LineAddr) (count link : Nat) : List Byte :=
          [state, presence, BitVec.ofNat 8 l.die.val, BitVec.ofNat 8 l.block.val, BitVec.ofNat 8 (l.line.val / 256),
            BitVec.ofNat 8 l.line.val, BitVec.ofNat 8 count, BitVec.ofNat 8 link]
        let link (p : Option BufIx) : Byte × Nat :=
          match p with
          | none => (0x01, 0)
          | some j => (0x03, j.val)
        exec (.bufferQuery index) s =
          .next { s.replied (.bufferQuery index) .done
            (match s.buffer i with
              | .free => [0x00, 0x00, 0x00, 0x00, 0x00, 0x00, 0x00, 0x00]
              | .loading l _ _ => fields 0x01 0x01 l 0 0
              | .filling l _ b p _ => fields 0x02 (link p).1 l (b.written.toList.count true) (link p).2
              | .posted l _ b p => fields 0x03 (link p).1 l (b.written.toList.count true) (link p).2
              | .programming l _ b _ => fields 0x04 0x01 l (b.written.toList.count true) 0) with
            out := Outputs.none }) ∧
      (11 < index.toNat →
        exec (.bufferQuery index) s =
          .next { s.replied (.bufferQuery index) (.refused .badArgument) [] with out := Outputs.none })) ∧
    (∀ die, s.completing (.dieQuery die) →
      (∀ d : DieIx, die.toNat = d.val → d.val < s.fittedDies →
        let x := s.die d
        let state : Byte :=
          match x.state with
          | .starting _ => 0x00
          | .ready => 0x01
          | .reading _ _ => 0x02
          | .programming _ _ _ => 0x03
          | .erasing _ _ _ => 0x04
          | .halting _ _ _ => 0x05
          | .halted _ => 0x06
          | .offline _ => 0x07
          | .absent => 0x0F
        let restarting : Byte :=
          match x.state with
          | .offline (some _) => 0x01
          | _ => 0x00
        let outstanding : Nat :=
          match x.state with
          | .reading _ _ => 1
          | _ => 0
        let entry (c : ContextEntry) : List Byte :=
          (match c.op with
            | .program p => [0x01, BitVec.ofNat 8 p.block.val, BitVec.ofNat 8 p.buffer.val]
            | .erase e => [0x02, BitVec.ofNat 8 e.block.val, 0xFF])
            ++ [BitVec.ofNat 8 (c.budget / 16777216), BitVec.ofNat 8 (c.budget / 65536),
              BitVec.ofNat 8 (c.budget / 256), BitVec.ofNat 8 c.budget]
        exec (.dieQuery die) s =
          .next { s.replied (.dieQuery die) .done
            ([state, restarting, BitVec.ofNat 8 x.context.length,
                BitVec.ofNat 8 (x.readQueue.length + outstanding), BitVec.ofNat 8 x.workQueue.length,
                BitVec.ofNat 8 x.interleave] ++ x.context.flatMap entry) with out := Outputs.none }) ∧
      (s.fittedDies ≤ die.toNat →
        exec (.dieQuery die) s =
          .next { s.replied (.dieQuery die) (.refused .badArgument) [] with out := Outputs.none })) ∧
    (s.completing .configRead →
      exec .configRead s =
        .next { s.replied .configRead .done
          [BitVec.ofNat 8 (s.settings.coalesceWindow / 256), BitVec.ofNat 8 s.settings.coalesceWindow,
            BitVec.ofNat 8 (s.settings.holdLimit / 256), BitVec.ofNat 8 s.settings.holdLimit,
            BitVec.ofNat 8 (s.settings.guardInterval / 256), BitVec.ofNat 8 s.settings.guardInterval,
            BitVec.ofNat 8 s.settings.holdOff, BitVec.ofNat 8 s.settings.interleaveBudget,
            (if s.settings.faultInterrupt then 0x01 else 0x00)
              + (if s.settings.completionInterrupt then 0x02 else 0x00)] with out := Outputs.none })

/-- CONFIGURE sets all seven settings together where each is in its range, and otherwise is refused as a whole with
BAD_ARGUMENT and no setting changes; no running timer is touched (R159). -/
def Obligations.ConfigureSetsAllOrNone : Prop :=
  ∀ (coalesce hold guard : BitVec 16) (holdOff budget enables : Byte) (s : State),
    let c := MgmtCommand.configure coalesce hold guard holdOff budget enables
    s.completing c → s.mode = .running →
    exec (.configure coalesce hold guard holdOff budget enables) s =
      if coalesce.toNat ≤ 4095 ∧ guard.toNat ≤ 1023 ∧ budget.toNat ≤ 15 ∧ enables.toNat ≤ 3 then
        .next { s.replied c .done [] with
          settings := ⟨coalesce.toNat, hold.toNat, guard.toNat, holdOff.toNat, budget.toNat,
            enables.toNat % 2 = 1, 2 ≤ enables.toNat⟩
          out := Outputs.none }
      else .next { s.replied c (.refused .badArgument) [] with out := Outputs.none }

/-- REGION_WRITE stores its six fields in the entry of its index where the range is in order and shares no block with
another valid entry; an overlapping valid entry is refused with OVERLAP and an argument out of range with
BAD_ARGUMENT, and the table stays as it was (R32). -/
def Obligations.RegionWriteStoresEntry : Prop :=
  ∀ (index valid : Byte) (first last : BitVec 16) (mode erasePermitted posting : Byte) (s : State),
    let c := MgmtCommand.regionWrite index valid first last mode erasePermitted posting
    s.completing c → s.mode = .running →
    (∀ (i : Fin 8) (f l : GlobalBlock) (m : WriteMode) (q : Posting), index.toNat = i.val → first.toNat = f.val →
      last.toNat = l.val → f.val ≤ l.val → valid = 0x00 ∨ valid = 0x01 → mode = m.code →
      erasePermitted = 0x00 ∨ erasePermitted = 0x01 → posting = q.code →
      (valid = 0x01 → ∀ j : Fin 8, j ≠ i → (s.regions[j]).valid = true →
        (s.regions[j]).last.val < f.val ∨ l.val < (s.regions[j]).first.val) →
      exec (.regionWrite index valid first last mode erasePermitted posting) s =
        .next { s.replied c .done [] with
          regions := s.regions.set i ⟨valid = 0x01, f, l, m, erasePermitted = 0x01, q⟩
          out := Outputs.none }) ∧
    (∀ (i j : Fin 8) (m : WriteMode) (q : Posting), index.toNat = i.val → first.toNat ≤ last.toNat →
      last.toNat < 1024 → valid = 0x01 → mode = m.code → erasePermitted = 0x00 ∨ erasePermitted = 0x01 →
      posting = q.code → j ≠ i → (s.regions[j]).valid = true → first.toNat ≤ (s.regions[j]).last.val →
      (s.regions[j]).first.val ≤ last.toNat →
      exec (.regionWrite index valid first last mode erasePermitted posting) s =
        .next { s.replied c (.refused .overlap) [] with out := Outputs.none }) ∧
    (7 < index.toNat ∨ 1023 < last.toNat ∨ last.toNat < first.toNat ∨ 1 < valid.toNat ∨ 2 < mode.toNat ∨
        1 < erasePermitted.toNat ∨ 1 < posting.toNat →
      exec (.regionWrite index valid first last mode erasePermitted posting) s =
        .next { s.replied c (.refused .badArgument) [] with out := Outputs.none })

/-- A REGION_WRITE, LOCK, CONFIGURE, ERASE, FLUSH, DIE_RESTART, FAULT_CLEAR or CHANNEL_RESET that completes during start-up or
a channel reset is refused with STARTING or RESETTING and changes nothing, and so is a CEILING, which carries the
ceiling in force (R129, R156). -/
def Obligations.BusyCommandsRefused : Prop :=
  ∀ s : State,
    (∀ c : MgmtCommand, c.refusedWhenBusy = true → s.completing c →
      (s.mode = .starting → exec c.completion s =
        .next { s.replied c (.refused .starting) [] with out := Outputs.none }) ∧
      (s.mode = .resetting → exec c.completion s =
        .next { s.replied c (.refused .resetting) [] with out := Outputs.none })) ∧
    ∀ (die : Byte) (value : BitVec 16) (old : Nat), s.completing (.ceiling die value) →
      (∀ d : DieIx, die.toNat = d.val → old = (s.ceilings[d]).val) → (4 ≤ die.toNat → old = 0) →
      (s.mode = .starting → exec (.ceiling die value) s =
        .next { s.replied (.ceiling die value) (.refused .starting) (twoBytes old) with out := Outputs.none }) ∧
      (s.mode = .resetting → exec (.ceiling die value) s =
        .next { s.replied (.ceiling die value) (.refused .resetting) (twoBytes old) with out := Outputs.none })

/-- An ERASE that fails a check after the mode is refused with the reason of the first check that fails, takes no ticket
and changes no state (R111). -/
def Obligations.EraseRefusedInOrder : Prop :=
  ∀ (block : BitVec 16) (reason : Reason) (s : State), s.completing (MgmtCommand.erase block) → s.mode = .running →
    (s.fittedDies * 256 ≤ block.toNat ∧ reason = .badArgument ∨
      ∃ g : GlobalBlock, block.toNat = g.val ∧ g.val < s.fittedDies * 256 ∧
        (if (s.die (dieOf g)).isOffline then reason = .dieOffline
          else if (s.regionOf g).map RegionEntry.erasePermitted ≠ some true then reason = .eraseNotPermitted
          else if (s.block g).lock = .shut then reason = .blockShut
          else if (s.block g).erase ≠ .none then reason = .alreadyPending
          else 8 ≤ s.ticketsInUse.length ∧ reason = .listFull)) →
    exec (Instr.erase block) s = .next { s.replied (MgmtCommand.erase block) (ReplyStatus.refused reason) [] with out := Outputs.none }

/-- An ERASE whose checks pass is ACCEPTED with a ticket not in use, the counter's own where that is free, and the
requests of the block in the held lists of its LOADING buffers and in the wait list are marked. Where the arbiter of
its die starts nothing, its block becomes ERASE_PENDING, its entry joins the tail of the work queue, and the FILLING
buffers of the block are posted immediately ahead of it in increasing open number. On an idle READY die the first of
those programs starts in the same happening, or, with none to post and nothing pending for the block, the erase itself
(R15, R40, R81, R85, R111, R112, R117, R160). -/
def Obligations.EraseAdmitted : Prop :=
  ∀ (block : BitVec 16) (g : GlobalBlock) (s : State),
    let d := dieOf g
    let x := s.die d
    let waits (t : Tag) : Bool := (s.waitList.contains t && s.isForBlock g t) || (s.heldOfBlock g).contains t
    s.completing (MgmtCommand.erase block) → s.mode = .running → block.toNat = g.val → g.val < s.fittedDies * 256 →
    x.isOffline = false → (s.regionOf g).map RegionEntry.erasePermitted = some true →
    (s.block g).lock = .opened → (s.block g).erase = .none → s.ticketsInUse.length < 8 →
    ∃ tk u, tk ∉ s.ticketsInUse ∧ (s.ticketCounter ∉ s.ticketsInUse → tk = s.ticketCounter) ∧
      exec (Instr.erase block) s = .next u ∧
      u = { s.replied (MgmtCommand.erase block) .accepted [byte tk.val] with
        ticketCounter := tk + 1, table := u.table, buffers := u.buffers, blocks := u.blocks, dies := u.dies
        out := u.out } ∧
      (∀ t, u.request t = if waits t then (s.request t).map fun r => { r with mark := true } else s.request t) ∧
      ∀ is : List BufIx, s.fillingInOrder (fun b => b.inBlock g) is → s.othersAtRest d →
        (∀ tk', WorkEntry.erase (blockOf g) tk' ∉ x.workQueue) →
        (x.state ≠ .ready → x.atRest = true →
          u.blocks = s.blocks.set g { s.block g with erase := .pending } ∧
          u.dies = s.dies.set d
            { x with workQueue := x.workQueue ++ (programEntries is ++ [WorkEntry.erase (blockOf g) tk]) } ∧
          (∀ j, u.buffer j = if j ∈ is then (s.buffer j).asPosted else s.buffer j) ∧
          u.out = Outputs.none) ∧
        (x.state = .ready → x.readQueue = [] → x.workQueue = [] → s.settings.guardInterval ≠ 0 →
          (∀ i rest l n body due, is = i :: rest → s.buffer i = .filling l n body none due →
            u.blocks = s.blocks.set g { s.block g with erase := .pending, clean := false } ∧
            u.dies = s.dies.set d
              { x with
                state := .programming ⟨l.block, l.line, i⟩ (s.now + 3000) (some (s.now + s.settings.guardInterval))
                workQueue := programEntries rest ++ [WorkEntry.erase (blockOf g) tk] } ∧
            (∀ j, u.buffer j =
              if j = i then .programming l n body 0 else if j ∈ rest then (s.buffer j).asPosted else s.buffer j) ∧
            u.out = ⟨[(d, .programLine l.block l.line body.image (wordMask body.written))], none, []⟩) ∧
          (is = [] → (∀ i, (s.buffer i).inBlock g = true → (s.buffer i).isLoading = false) →
            s.writeWaitsForBlock g = false →
            u.blocks = s.blocks.set g { s.block g with erase := .erasing, clean := false } ∧
            u.dies = s.dies.set d
              { x with
                state := .erasing ⟨blockOf g, tk⟩ (s.now + 4000000) (some (s.now + s.settings.guardInterval)) } ∧
            u.buffers = s.buffers ∧
            u.out = ⟨[(d, .eraseBlock (blockOf g))], none, []⟩))

/-- A FLUSH is ACCEPTED with a ticket not in use and tracks every buffer in use in its scope; with none it is already
complete with outcome DONE. Its FILLING members are posted in increasing open number, each PROGRAM entry at the tail
of its die's work queue. A scope that is neither ALL nor a fitted die is refused with BAD_ARGUMENT, and a full ticket
space with LIST_FULL (R27, R28, R160 to R162). -/
def Obligations.FlushTracksItsBuffers : Prop :=
  ∀ (scope : Byte) (s : State), s.completing (.flush scope) → s.mode = .running →
    (∀ c : FlushScope, (scope = 0xFF ∧ c = .all ∨ ∃ d : DieIx, scope.toNat = d.val ∧ d.val < s.fittedDies ∧ c = .die d) →
      let members := bufferIndices.filter fun i => c.takes (s.buffer i)
      (s.ticketsInUse.length < 8 → s.flushesOpen →
        ∀ is : List BufIx, s.fillingInOrder c.takes is →
        let queued (d : DieIx) : Die :=
          { s.die d with
            workQueue := (s.die d).workQueue ++ programEntries (is.filter fun i => (s.buffer i).inDie d) }
        (∀ i ∈ is, ∀ l, (s.buffer i).line? = some l → (s.block l.global).erase ≠ .pending) →
        (∀ d, (queued d).atRest = true) →
        ∃ tk u, tk ∉ s.ticketsInUse ∧ (s.ticketCounter ∉ s.ticketsInUse → tk = s.ticketCounter) ∧
          exec (.flush scope) s = .next u ∧
          u = { s.replied (.flush scope) .accepted [byte tk.val] with
            ticketCounter := tk + 1
            buffers := u.buffers
            dies := u.dies
            flushes := if members = [] then s.flushes else s.flushes ++ [⟨tk, c, members⟩]
            completions := if members = [] then s.completions ++ [⟨tk, .flush, .done, c, none⟩] else s.completions
            out := Outputs.none } ∧
          (∀ j, u.buffer j = if j ∈ is then (s.buffer j).asPosted else s.buffer j) ∧
          ∀ d, u.die d = queued d) ∧
      (8 ≤ s.ticketsInUse.length →
        exec (.flush scope) s =
          .next { s.replied (.flush scope) (.refused .listFull) [] with out := Outputs.none })) ∧
    (scope ≠ 0xFF → s.fittedDies ≤ scope.toNat →
      exec (.flush scope) s =
        .next { s.replied (.flush scope) (.refused .badArgument) [] with out := Outputs.none })

/-- A DIE_RESTART of an OFFLINE die with no restart in progress is ACCEPTED with a ticket not in use: RESET_DIE is sent,
its 200 µs limit starts, and the die stays OFFLINE. Otherwise it is refused with the reason of the spec (R89, R160,
R161; log entry 23 for the order of the reasons). -/
def Obligations.DieRestartSendsReset : Prop :=
  ∀ (die : Byte) (s : State), s.completing (.dieRestart die) → s.mode = .running →
    (∀ d : DieIx, die.toNat = d.val → d.val < s.fittedDies →
      let x := s.die d
      (x.state = .offline none → s.ticketsInUse.length < 8 →
        ∃ tk, tk ∉ s.ticketsInUse ∧ (s.ticketCounter ∉ s.ticketsInUse → tk = s.ticketCounter) ∧
          exec (.dieRestart die) s =
            .next { s.replied (.dieRestart die) .accepted [byte tk.val] with
              ticketCounter := tk + 1
              dies := s.dies.set d { x with state := .offline (some (tk, s.now + 200)) }
              out := ⟨[(d, .resetDie)], none, []⟩ }) ∧
      ∀ reason : Reason,
        (x.state = .offline none ∧ 8 ≤ s.ticketsInUse.length ∧ reason = .listFull ∨
          (∃ r, x.state = .offline (some r)) ∧ reason = .alreadyPending ∨
          x.isOffline = false ∧ reason = .dieNotOffline) →
        exec (.dieRestart die) s =
          .next { s.replied (.dieRestart die) (ReplyStatus.refused reason) [] with out := Outputs.none }) ∧
    (s.fittedDies ≤ die.toNat →
      exec (.dieRestart die) s =
        .next { s.replied (.dieRestart die) (.refused .badArgument) [] with out := Outputs.none })

/-- FAULT_READ and COMPLETION_READ remove and return the oldest record with the number left, in every part mode, or the
empty indication; the records are written out here byte by byte. Neither touches the overflow mark or the sequence
counter. FAULT_CLEAR empties the log and clears the mark, and the sequence counter stands. IRQN is asserted exactly
while RSTN is high and the log, or the completion list, holds a record with its interrupt enabled (R164, R165, R167,
R171, section 11.4). -/
def Obligations.RecordsAreReadOldestFirst : Prop :=
  ∀ s : State,
    let two (n : Nat) : List Byte := [BitVec.ofNat 8 (n / 256), BitVec.ofNat 8 n]
    let line (l : LineAddr) : List Byte := [BitVec.ofNat 8 l.die.val, BitVec.ofNat 8 l.block.val] ++ two l.line.val
    let record (r : FaultRecord) : List Byte :=
      two r.sequence.toNat ++
        match r.body with
        | .programRetried l => [0x01, 0x1C, 0, 0] ++ line l ++ [0, 0, 0, 0, 0]
        | .lineLost .programFail l n => [0x02, 0x3D, 0x01, 0] ++ line l ++ two n ++ [0, 0, 0]
        | .lineLost .blockFailed l n => [0x02, 0x3D, 0x02, 0] ++ line l ++ two n ++ [0, 0, 0]
        | .lineLost .dieOffline l n => [0x02, 0x3D, 0x03, 0] ++ line l ++ two n ++ [0, 0, 0]
        | .eraseFail d b =>
          [0x03, 0x0C, 0, 0, BitVec.ofNat 8 d.val, BitVec.ofNat 8 b.val, 0, 0, 0, 0, 0, 0, 0]
        | .dieTimeout k d b l =>
          [0x04, 0x06 + (if b.isSome then 0x08 else 0x00) + (if l.isSome then 0x10 else 0x00), 0,
              match k with
                | .read => 0x01
                | .program => 0x02
                | .erase => 0x03
                | .halt => 0x04
                | .reset => 0x05,
              BitVec.ofNat 8 d.val, BitVec.ofNat 8 ((b.map Fin.val).getD 0)]
            ++ two ((l.map Fin.val).getD 0) ++ [0, 0, 0, 0, 0]
        | .resetDiscard lost lines requests erases =>
          [0x05, 0x60, 0, 0, 0, 0, 0, 0] ++ two lost
            ++ [BitVec.ofNat 8 lines, BitVec.ofNat 8 requests, BitVec.ofNat 8 erases]
    let completion (c : Completion) : List Byte :=
      [BitVec.ofNat 8 c.ticket.val,
          match c.kind with
            | .erase => 0x01
            | .flush => 0x02
            | .dieRestart => 0x03,
          match c.outcome with
            | .done => 0x01
            | .failed => 0x02
            | .cancelled => 0x03,
          match c.scope with
            | .all => 0xFF
            | .die d => BitVec.ofNat 8 d.val]
        ++ two ((c.block.map Fin.val).getD 0xFFFF)
    (s.completing .faultRead →
      (∀ r rest, s.faultLog = r :: rest →
        exec .faultRead s =
          .next { s.replied .faultRead .done (byte rest.length :: record r) with
            faultLog := rest, out := Outputs.none }) ∧
      (s.faultLog = [] →
        exec .faultRead s = .next { s.replied .faultRead .done [0] with out := Outputs.none })) ∧
    (s.completing .faultClear → s.mode = .running →
      exec .faultClear s =
        .next { s.replied .faultClear .done [] with faultLog := [], overflow := false, out := Outputs.none }) ∧
    (s.completing .completionRead →
      (∀ c rest, s.completions = c :: rest →
        exec .completionRead s =
          .next { s.replied .completionRead .done (byte rest.length :: completion c) with
            completions := rest, out := Outputs.none }) ∧
      (s.completions = [] →
        exec .completionRead s = .next { s.replied .completionRead .done [0] with out := Outputs.none })) ∧
    (s.irqnAsserted = true ↔ s.rstnLow = false ∧
      (s.settings.faultInterrupt = true ∧ s.faultLog ≠ [] ∨
        s.settings.completionInterrupt = true ∧ s.completions ≠ []))

/-- CHANNEL_RESET is ACCEPTED and begins the reset. Every outstanding request is answered ABORTED in increasing tag order,
every buffer is FREE, one RESET_DISCARD record is written, every ticketed work in progress completes CANCELLED, and
each fitted die that is not OFFLINE is sent RESET_DIE and becomes STARTING, the blocks of its unfinished operations
FAILED. Locks, ceilings, regions, settings, the ticket and open counters and the stored records are kept (R90, R166,
R174 to R179). -/
def Obligations.ChannelResetClearsTraffic : Prop :=
  ∀ s : State, s.completing .channelReset → s.mode = .running →
    let live (d : DieIx) : Bool := s.fitted d && !(s.die d).isOffline
    let written := bufferIndices.filter fun i => (s.buffer i).body?.isSome
    let tags := tagIndices.filter fun t => (s.request t).isSome
    ∃ u, exec .channelReset s = .next u ∧
      u = { s.replied .channelReset .accepted [] with
        mode := if ∃ d, live d = true then .resetting else .running
        table := Vector.replicate 16 none
        responses := s.responses ++ tags.map fun t => ⟨t, .aborted, none⟩
        buffers := Vector.replicate 12 .free
        waitList := []
        flushes := []
        completions := s.completions
          ++ (s.allErases.map fun x => ⟨x.2.ticket, .erase, .cancelled, .die x.1, some (globalBlock x.1 x.2.block)⟩)
          ++ (s.flushes.map fun f => ⟨f.ticket, .flush, .cancelled, f.scope, none⟩)
          ++ s.allRestarts.map fun x => ⟨x.2, .dieRestart, .cancelled, .die x.1, none⟩
        faultLog := if s.faultLog.length < 16 then
            s.faultLog ++ [⟨s.sequence, .resetDiscard ((written.map fun i => (s.buffer i).writtenCount).sum)
              written.length tags.length s.allErases.length⟩]
          else s.faultLog
        overflow := s.overflow || decide (16 ≤ s.faultLog.length)
        sequence := s.sequence + 1
        blocks := u.blocks
        dies := u.dies
        out := ⟨(dieIndices.filter live).map fun d => (d, .resetDie), none, []⟩ } ∧
      (∀ d, u.die d =
        if s.fitted d = false then s.die d
        else if live d then ⟨.starting (some (s.now + 200)), [], [], [], 0⟩
        else ⟨.offline none, [], [], [], 0⟩) ∧
      ∀ g, u.block g =
        ⟨(s.block g).lock,
          if live (dieOf g) = true ∧ ∃ op ∈ (s.die (dieOf g)).unfinished, op.block = blockOf g then .failed
          else (s.block g).health,
          .none, false, []⟩

/-! ## The whole machine -/

/-- The frame that a command's encoding spells is taken as that command, with every argument at every value its field
admits (section 11.1, R151). -/
def Obligations.FrameDecodesToItsCommand : Prop :=
  ∀ c : MgmtCommand, (∀ b, c ≠ .malformed b) →
    ∃ b args, encodeFrame c = b :: args ∧ b ≠ 0 ∧ parseFrame b args false = c

/-- The laws of protection, of the region table, of the fault log, of the host port, of the order of acceptance, of the
line buffers, of the halt context and of the tickets hold after reset. -/
def Obligations.LawsHoldAtReset : Prop :=
  State.reset.ProtnLaw ∧ State.reset.RegionLaw ∧ State.reset.FaultLogLaw ∧ State.reset.PortLaw ∧ State.reset.OrderLaw ∧
    State.reset.PoolLaw ∧ State.reset.ContextLaw ∧ State.reset.TicketLaw

/-- Every step keeps the law of protection: while PROTN is asserted no pinned block is OPEN. And no step but that of
POWER_ON or LINE_RESET lowers a pin ceiling while PROTN is asserted or raises one while it is released (R126, R129,
R131). -/
def Obligations.ProtnLawKept : Prop :=
  ∀ s u : State, step s = .next u →
    (s.ProtnLaw → u.ProtnLaw) ∧
      ((∀ c rest, s.pending = c :: rest → c.zeroesCeilings = false) → ∀ d : DieIx,
        (s.protn = true → (s.ceilings[d]).val ≤ (u.ceilings[d]).val) ∧
          (s.protn = false → (u.ceilings[d]).val ≤ (s.ceilings[d]).val))

/-- Every step keeps the laws of the region table, of the fault log and of the line buffers: no two valid entries share
a block, the log holds at most 16 records, and at most two buffers hold a line, one of them PROGRAMMING and the other
linked to it (R4, R32, R168). -/
def Obligations.RegionAndFaultLogLawsKept : Prop :=
  ∀ s u : State, step s = .next u →
    (s.RegionLaw → u.RegionLaw) ∧ (s.FaultLogLaw → u.FaultLogLaw) ∧ (s.PoolLaw → u.PoolLaw)

/-- Every step keeps the law of the host port, that outstanding requests and undelivered responses together are at most
16, so that the response list never overflows; the law of the order of acceptance, that no two outstanding requests
have the same place in it; the law of the halt context, that it holds at most an erase with a
program above it; and with that the law of the tickets, that at most eight numbers are in use and none twice (R78,
R138, R139, R141, R148, R160, R161). -/
def Obligations.PortLawKept : Prop :=
  ∀ s u : State, step s = .next u →
    (s.PortLaw → u.PortLaw) ∧ (s.OrderLaw → u.OrderLaw) ∧ (s.ContextLaw → u.ContextLaw) ∧
      (s.ContextLaw → s.TicketLaw → u.TicketLaw)

/-- No host request, no timer and no message of a die but those that end a reset changes the part mode, the pins, the
settings, the region table, a ceiling, a lock, the stored reply, the command in execution, the ticket counter or the
queue: those are the management port's, the PROTN line's and the resets' alone (R33, R125, R126, R152, R159, R160). -/
def Obligations.TrafficKeepsSetup : Prop :=
  ∀ (c : Instr) (s u : State), c.isTraffic = true → exec c s = .next u → u.setup = s.setup
end

