-- ==== Sys2Proof/Laws/State.lean ====
section
/-! SUPPORT. One lemma per field per update of the state, each true by unfolding, and what the accessors of buffers,
blocks, dies and requests read after a write. -/

namespace Sys2Proof.Machine

open Sys2Proof

/-! ## `State.quiet` -/

@[simp] theorem State.quiet_now (s : State) : s.quiet.now = s.now := rfl
@[simp] theorem State.quiet_mode (s : State) : s.quiet.mode = s.mode := rfl
@[simp] theorem State.quiet_rstnLow (s : State) : s.quiet.rstnLow = s.rstnLow := rfl
@[simp] theorem State.quiet_dcount (s : State) : s.quiet.dcount = s.dcount := rfl
@[simp] theorem State.quiet_protnPin (s : State) : s.quiet.protnPin = s.protnPin := rfl
@[simp] theorem State.quiet_protn (s : State) : s.quiet.protn = s.protn := rfl
@[simp] theorem State.quiet_settings (s : State) : s.quiet.settings = s.settings := rfl
@[simp] theorem State.quiet_table (s : State) : s.quiet.table = s.table := rfl
@[simp] theorem State.quiet_responses (s : State) : s.quiet.responses = s.responses := rfl
@[simp] theorem State.quiet_regions (s : State) : s.quiet.regions = s.regions := rfl
@[simp] theorem State.quiet_buffers (s : State) : s.quiet.buffers = s.buffers := rfl
@[simp] theorem State.quiet_openCounter (s : State) : s.quiet.openCounter = s.openCounter := rfl
@[simp] theorem State.quiet_waitList (s : State) : s.quiet.waitList = s.waitList := rfl
@[simp] theorem State.quiet_flushes (s : State) : s.quiet.flushes = s.flushes := rfl
@[simp] theorem State.quiet_blocks (s : State) : s.quiet.blocks = s.blocks := rfl
@[simp] theorem State.quiet_dies (s : State) : s.quiet.dies = s.dies := rfl
@[simp] theorem State.quiet_ceilings (s : State) : s.quiet.ceilings = s.ceilings := rfl
@[simp] theorem State.quiet_reply (s : State) : s.quiet.reply = s.reply := rfl
@[simp] theorem State.quiet_executing (s : State) : s.quiet.executing = s.executing := rfl
@[simp] theorem State.quiet_ticketCounter (s : State) : s.quiet.ticketCounter = s.ticketCounter := rfl
@[simp] theorem State.quiet_completions (s : State) : s.quiet.completions = s.completions := rfl
@[simp] theorem State.quiet_faultLog (s : State) : s.quiet.faultLog = s.faultLog := rfl
@[simp] theorem State.quiet_overflow (s : State) : s.quiet.overflow = s.overflow := rfl
@[simp] theorem State.quiet_sequence (s : State) : s.quiet.sequence = s.sequence := rfl
@[simp] theorem State.quiet_out (s : State) : s.quiet.out = Outputs.none := rfl
@[simp] theorem State.quiet_pending (s : State) : s.quiet.pending = s.pending := rfl

/-! ## `State.reach` -/

@[simp] theorem State.reach_now (s : State) (due : Nat) : (s.reach due).now = max s.now due := rfl
@[simp] theorem State.reach_mode (s : State) (due : Nat) : (s.reach due).mode = s.mode := rfl
@[simp] theorem State.reach_rstnLow (s : State) (due : Nat) : (s.reach due).rstnLow = s.rstnLow := rfl
@[simp] theorem State.reach_dcount (s : State) (due : Nat) : (s.reach due).dcount = s.dcount := rfl
@[simp] theorem State.reach_protnPin (s : State) (due : Nat) : (s.reach due).protnPin = s.protnPin := rfl
@[simp] theorem State.reach_protn (s : State) (due : Nat) : (s.reach due).protn = s.protn := rfl
@[simp] theorem State.reach_settings (s : State) (due : Nat) : (s.reach due).settings = s.settings := rfl
@[simp] theorem State.reach_table (s : State) (due : Nat) : (s.reach due).table = s.table := rfl
@[simp] theorem State.reach_responses (s : State) (due : Nat) : (s.reach due).responses = s.responses := rfl
@[simp] theorem State.reach_regions (s : State) (due : Nat) : (s.reach due).regions = s.regions := rfl
@[simp] theorem State.reach_buffers (s : State) (due : Nat) : (s.reach due).buffers = s.buffers := rfl
@[simp] theorem State.reach_openCounter (s : State) (due : Nat) : (s.reach due).openCounter = s.openCounter := rfl
@[simp] theorem State.reach_waitList (s : State) (due : Nat) : (s.reach due).waitList = s.waitList := rfl
@[simp] theorem State.reach_flushes (s : State) (due : Nat) : (s.reach due).flushes = s.flushes := rfl
@[simp] theorem State.reach_blocks (s : State) (due : Nat) : (s.reach due).blocks = s.blocks := rfl
@[simp] theorem State.reach_dies (s : State) (due : Nat) : (s.reach due).dies = s.dies := rfl
@[simp] theorem State.reach_ceilings (s : State) (due : Nat) : (s.reach due).ceilings = s.ceilings := rfl
@[simp] theorem State.reach_reply (s : State) (due : Nat) : (s.reach due).reply = s.reply := rfl
@[simp] theorem State.reach_executing (s : State) (due : Nat) : (s.reach due).executing = s.executing := rfl
@[simp] theorem State.reach_ticketCounter (s : State) (due : Nat) : (s.reach due).ticketCounter = s.ticketCounter := rfl
@[simp] theorem State.reach_completions (s : State) (due : Nat) : (s.reach due).completions = s.completions := rfl
@[simp] theorem State.reach_faultLog (s : State) (due : Nat) : (s.reach due).faultLog = s.faultLog := rfl
@[simp] theorem State.reach_overflow (s : State) (due : Nat) : (s.reach due).overflow = s.overflow := rfl
@[simp] theorem State.reach_sequence (s : State) (due : Nat) : (s.reach due).sequence = s.sequence := rfl
@[simp] theorem State.reach_out (s : State) (due : Nat) : (s.reach due).out = s.out := rfl
@[simp] theorem State.reach_pending (s : State) (due : Nat) : (s.reach due).pending = s.pending := rfl

/-! ## `State.send` -/

@[simp] theorem State.send_now (s : State) (d : DieIx) (m : DieMessage) : (s.send d m).now = s.now := rfl
@[simp] theorem State.send_mode (s : State) (d : DieIx) (m : DieMessage) : (s.send d m).mode = s.mode := rfl
@[simp] theorem State.send_rstnLow (s : State) (d : DieIx) (m : DieMessage) : (s.send d m).rstnLow = s.rstnLow := rfl
@[simp] theorem State.send_dcount (s : State) (d : DieIx) (m : DieMessage) : (s.send d m).dcount = s.dcount := rfl
@[simp] theorem State.send_protnPin (s : State) (d : DieIx) (m : DieMessage) : (s.send d m).protnPin = s.protnPin := rfl
@[simp] theorem State.send_protn (s : State) (d : DieIx) (m : DieMessage) : (s.send d m).protn = s.protn := rfl
@[simp] theorem State.send_settings (s : State) (d : DieIx) (m : DieMessage) : (s.send d m).settings = s.settings := rfl
@[simp] theorem State.send_table (s : State) (d : DieIx) (m : DieMessage) : (s.send d m).table = s.table := rfl
@[simp] theorem State.send_responses (s : State) (d : DieIx) (m : DieMessage) : (s.send d m).responses = s.responses := rfl
@[simp] theorem State.send_regions (s : State) (d : DieIx) (m : DieMessage) : (s.send d m).regions = s.regions := rfl
@[simp] theorem State.send_buffers (s : State) (d : DieIx) (m : DieMessage) : (s.send d m).buffers = s.buffers := rfl
@[simp] theorem State.send_openCounter (s : State) (d : DieIx) (m : DieMessage) : (s.send d m).openCounter = s.openCounter := rfl
@[simp] theorem State.send_waitList (s : State) (d : DieIx) (m : DieMessage) : (s.send d m).waitList = s.waitList := rfl
@[simp] theorem State.send_flushes (s : State) (d : DieIx) (m : DieMessage) : (s.send d m).flushes = s.flushes := rfl
@[simp] theorem State.send_blocks (s : State) (d : DieIx) (m : DieMessage) : (s.send d m).blocks = s.blocks := rfl
@[simp] theorem State.send_dies (s : State) (d : DieIx) (m : DieMessage) : (s.send d m).dies = s.dies := rfl
@[simp] theorem State.send_ceilings (s : State) (d : DieIx) (m : DieMessage) : (s.send d m).ceilings = s.ceilings := rfl
@[simp] theorem State.send_reply (s : State) (d : DieIx) (m : DieMessage) : (s.send d m).reply = s.reply := rfl
@[simp] theorem State.send_executing (s : State) (d : DieIx) (m : DieMessage) : (s.send d m).executing = s.executing := rfl
@[simp] theorem State.send_ticketCounter (s : State) (d : DieIx) (m : DieMessage) : (s.send d m).ticketCounter = s.ticketCounter := rfl
@[simp] theorem State.send_completions (s : State) (d : DieIx) (m : DieMessage) : (s.send d m).completions = s.completions := rfl
@[simp] theorem State.send_faultLog (s : State) (d : DieIx) (m : DieMessage) : (s.send d m).faultLog = s.faultLog := rfl
@[simp] theorem State.send_overflow (s : State) (d : DieIx) (m : DieMessage) : (s.send d m).overflow = s.overflow := rfl
@[simp] theorem State.send_sequence (s : State) (d : DieIx) (m : DieMessage) : (s.send d m).sequence = s.sequence := rfl
@[simp] theorem State.send_out (s : State) (d : DieIx) (m : DieMessage) : (s.send d m).out = { s.out with link := s.out.link ++ [(d, m)] } := rfl
@[simp] theorem State.send_pending (s : State) (d : DieIx) (m : DieMessage) : (s.send d m).pending = s.pending := rfl

/-! ## `State.respond` -/

@[simp] theorem State.respond_now (s : State) (r : Response) : (s.respond r).now = s.now := rfl
@[simp] theorem State.respond_mode (s : State) (r : Response) : (s.respond r).mode = s.mode := rfl
@[simp] theorem State.respond_rstnLow (s : State) (r : Response) : (s.respond r).rstnLow = s.rstnLow := rfl
@[simp] theorem State.respond_dcount (s : State) (r : Response) : (s.respond r).dcount = s.dcount := rfl
@[simp] theorem State.respond_protnPin (s : State) (r : Response) : (s.respond r).protnPin = s.protnPin := rfl
@[simp] theorem State.respond_protn (s : State) (r : Response) : (s.respond r).protn = s.protn := rfl
@[simp] theorem State.respond_settings (s : State) (r : Response) : (s.respond r).settings = s.settings := rfl
@[simp] theorem State.respond_table (s : State) (r : Response) : (s.respond r).table = s.table := rfl
@[simp] theorem State.respond_responses (s : State) (r : Response) : (s.respond r).responses = s.responses ++ [r] := rfl
@[simp] theorem State.respond_regions (s : State) (r : Response) : (s.respond r).regions = s.regions := rfl
@[simp] theorem State.respond_buffers (s : State) (r : Response) : (s.respond r).buffers = s.buffers := rfl
@[simp] theorem State.respond_openCounter (s : State) (r : Response) : (s.respond r).openCounter = s.openCounter := rfl
@[simp] theorem State.respond_waitList (s : State) (r : Response) : (s.respond r).waitList = s.waitList := rfl
@[simp] theorem State.respond_flushes (s : State) (r : Response) : (s.respond r).flushes = s.flushes := rfl
@[simp] theorem State.respond_blocks (s : State) (r : Response) : (s.respond r).blocks = s.blocks := rfl
@[simp] theorem State.respond_dies (s : State) (r : Response) : (s.respond r).dies = s.dies := rfl
@[simp] theorem State.respond_ceilings (s : State) (r : Response) : (s.respond r).ceilings = s.ceilings := rfl
@[simp] theorem State.respond_reply (s : State) (r : Response) : (s.respond r).reply = s.reply := rfl
@[simp] theorem State.respond_executing (s : State) (r : Response) : (s.respond r).executing = s.executing := rfl
@[simp] theorem State.respond_ticketCounter (s : State) (r : Response) : (s.respond r).ticketCounter = s.ticketCounter := rfl
@[simp] theorem State.respond_completions (s : State) (r : Response) : (s.respond r).completions = s.completions := rfl
@[simp] theorem State.respond_faultLog (s : State) (r : Response) : (s.respond r).faultLog = s.faultLog := rfl
@[simp] theorem State.respond_overflow (s : State) (r : Response) : (s.respond r).overflow = s.overflow := rfl
@[simp] theorem State.respond_sequence (s : State) (r : Response) : (s.respond r).sequence = s.sequence := rfl
@[simp] theorem State.respond_out (s : State) (r : Response) : (s.respond r).out = s.out := rfl
@[simp] theorem State.respond_pending (s : State) (r : Response) : (s.respond r).pending = s.pending := rfl

/-! ## `State.complete` -/

@[simp] theorem State.complete_now (s : State) (c : Completion) : (s.complete c).now = s.now := rfl
@[simp] theorem State.complete_mode (s : State) (c : Completion) : (s.complete c).mode = s.mode := rfl
@[simp] theorem State.complete_rstnLow (s : State) (c : Completion) : (s.complete c).rstnLow = s.rstnLow := rfl
@[simp] theorem State.complete_dcount (s : State) (c : Completion) : (s.complete c).dcount = s.dcount := rfl
@[simp] theorem State.complete_protnPin (s : State) (c : Completion) : (s.complete c).protnPin = s.protnPin := rfl
@[simp] theorem State.complete_protn (s : State) (c : Completion) : (s.complete c).protn = s.protn := rfl
@[simp] theorem State.complete_settings (s : State) (c : Completion) : (s.complete c).settings = s.settings := rfl
@[simp] theorem State.complete_table (s : State) (c : Completion) : (s.complete c).table = s.table := rfl
@[simp] theorem State.complete_responses (s : State) (c : Completion) : (s.complete c).responses = s.responses := rfl
@[simp] theorem State.complete_regions (s : State) (c : Completion) : (s.complete c).regions = s.regions := rfl
@[simp] theorem State.complete_buffers (s : State) (c : Completion) : (s.complete c).buffers = s.buffers := rfl
@[simp] theorem State.complete_openCounter (s : State) (c : Completion) : (s.complete c).openCounter = s.openCounter := rfl
@[simp] theorem State.complete_waitList (s : State) (c : Completion) : (s.complete c).waitList = s.waitList := rfl
@[simp] theorem State.complete_flushes (s : State) (c : Completion) : (s.complete c).flushes = s.flushes := rfl
@[simp] theorem State.complete_blocks (s : State) (c : Completion) : (s.complete c).blocks = s.blocks := rfl
@[simp] theorem State.complete_dies (s : State) (c : Completion) : (s.complete c).dies = s.dies := rfl
@[simp] theorem State.complete_ceilings (s : State) (c : Completion) : (s.complete c).ceilings = s.ceilings := rfl
@[simp] theorem State.complete_reply (s : State) (c : Completion) : (s.complete c).reply = s.reply := rfl
@[simp] theorem State.complete_executing (s : State) (c : Completion) : (s.complete c).executing = s.executing := rfl
@[simp] theorem State.complete_ticketCounter (s : State) (c : Completion) : (s.complete c).ticketCounter = s.ticketCounter := rfl
@[simp] theorem State.complete_completions (s : State) (c : Completion) : (s.complete c).completions = s.completions ++ [c] := rfl
@[simp] theorem State.complete_faultLog (s : State) (c : Completion) : (s.complete c).faultLog = s.faultLog := rfl
@[simp] theorem State.complete_overflow (s : State) (c : Completion) : (s.complete c).overflow = s.overflow := rfl
@[simp] theorem State.complete_sequence (s : State) (c : Completion) : (s.complete c).sequence = s.sequence := rfl
@[simp] theorem State.complete_out (s : State) (c : Completion) : (s.complete c).out = s.out := rfl
@[simp] theorem State.complete_pending (s : State) (c : Completion) : (s.complete c).pending = s.pending := rfl

/-! ## `State.giveTicket` -/

@[simp] theorem State.giveTicket_now (s : State) (t : Ticket) : (s.giveTicket t).now = s.now := rfl
@[simp] theorem State.giveTicket_mode (s : State) (t : Ticket) : (s.giveTicket t).mode = s.mode := rfl
@[simp] theorem State.giveTicket_rstnLow (s : State) (t : Ticket) : (s.giveTicket t).rstnLow = s.rstnLow := rfl
@[simp] theorem State.giveTicket_dcount (s : State) (t : Ticket) : (s.giveTicket t).dcount = s.dcount := rfl
@[simp] theorem State.giveTicket_protnPin (s : State) (t : Ticket) : (s.giveTicket t).protnPin = s.protnPin := rfl
@[simp] theorem State.giveTicket_protn (s : State) (t : Ticket) : (s.giveTicket t).protn = s.protn := rfl
@[simp] theorem State.giveTicket_settings (s : State) (t : Ticket) : (s.giveTicket t).settings = s.settings := rfl
@[simp] theorem State.giveTicket_table (s : State) (t : Ticket) : (s.giveTicket t).table = s.table := rfl
@[simp] theorem State.giveTicket_responses (s : State) (t : Ticket) : (s.giveTicket t).responses = s.responses := rfl
@[simp] theorem State.giveTicket_regions (s : State) (t : Ticket) : (s.giveTicket t).regions = s.regions := rfl
@[simp] theorem State.giveTicket_buffers (s : State) (t : Ticket) : (s.giveTicket t).buffers = s.buffers := rfl
@[simp] theorem State.giveTicket_openCounter (s : State) (t : Ticket) : (s.giveTicket t).openCounter = s.openCounter := rfl
@[simp] theorem State.giveTicket_waitList (s : State) (t : Ticket) : (s.giveTicket t).waitList = s.waitList := rfl
@[simp] theorem State.giveTicket_flushes (s : State) (t : Ticket) : (s.giveTicket t).flushes = s.flushes := rfl
@[simp] theorem State.giveTicket_blocks (s : State) (t : Ticket) : (s.giveTicket t).blocks = s.blocks := rfl
@[simp] theorem State.giveTicket_dies (s : State) (t : Ticket) : (s.giveTicket t).dies = s.dies := rfl
@[simp] theorem State.giveTicket_ceilings (s : State) (t : Ticket) : (s.giveTicket t).ceilings = s.ceilings := rfl
@[simp] theorem State.giveTicket_reply (s : State) (t : Ticket) : (s.giveTicket t).reply = s.reply := rfl
@[simp] theorem State.giveTicket_executing (s : State) (t : Ticket) : (s.giveTicket t).executing = s.executing := rfl
@[simp] theorem State.giveTicket_ticketCounter (s : State) (t : Ticket) : (s.giveTicket t).ticketCounter = t + 1 := rfl
@[simp] theorem State.giveTicket_completions (s : State) (t : Ticket) : (s.giveTicket t).completions = s.completions := rfl
@[simp] theorem State.giveTicket_faultLog (s : State) (t : Ticket) : (s.giveTicket t).faultLog = s.faultLog := rfl
@[simp] theorem State.giveTicket_overflow (s : State) (t : Ticket) : (s.giveTicket t).overflow = s.overflow := rfl
@[simp] theorem State.giveTicket_sequence (s : State) (t : Ticket) : (s.giveTicket t).sequence = s.sequence := rfl
@[simp] theorem State.giveTicket_out (s : State) (t : Ticket) : (s.giveTicket t).out = s.out := rfl
@[simp] theorem State.giveTicket_pending (s : State) (t : Ticket) : (s.giveTicket t).pending = s.pending := rfl

/-! ## `State.setBuffer` -/

@[simp] theorem State.setBuffer_now (s : State) (i : BufIx) (b : Buffer) : (s.setBuffer i b).now = s.now := rfl
@[simp] theorem State.setBuffer_mode (s : State) (i : BufIx) (b : Buffer) : (s.setBuffer i b).mode = s.mode := rfl
@[simp] theorem State.setBuffer_rstnLow (s : State) (i : BufIx) (b : Buffer) : (s.setBuffer i b).rstnLow = s.rstnLow := rfl
@[simp] theorem State.setBuffer_dcount (s : State) (i : BufIx) (b : Buffer) : (s.setBuffer i b).dcount = s.dcount := rfl
@[simp] theorem State.setBuffer_protnPin (s : State) (i : BufIx) (b : Buffer) : (s.setBuffer i b).protnPin = s.protnPin := rfl
@[simp] theorem State.setBuffer_protn (s : State) (i : BufIx) (b : Buffer) : (s.setBuffer i b).protn = s.protn := rfl
@[simp] theorem State.setBuffer_settings (s : State) (i : BufIx) (b : Buffer) : (s.setBuffer i b).settings = s.settings := rfl
@[simp] theorem State.setBuffer_table (s : State) (i : BufIx) (b : Buffer) : (s.setBuffer i b).table = s.table := rfl
@[simp] theorem State.setBuffer_responses (s : State) (i : BufIx) (b : Buffer) : (s.setBuffer i b).responses = s.responses := rfl
@[simp] theorem State.setBuffer_regions (s : State) (i : BufIx) (b : Buffer) : (s.setBuffer i b).regions = s.regions := rfl
@[simp] theorem State.setBuffer_buffers (s : State) (i : BufIx) (b : Buffer) : (s.setBuffer i b).buffers = s.buffers.set i b := rfl
@[simp] theorem State.setBuffer_openCounter (s : State) (i : BufIx) (b : Buffer) : (s.setBuffer i b).openCounter = s.openCounter := rfl
@[simp] theorem State.setBuffer_waitList (s : State) (i : BufIx) (b : Buffer) : (s.setBuffer i b).waitList = s.waitList := rfl
@[simp] theorem State.setBuffer_flushes (s : State) (i : BufIx) (b : Buffer) : (s.setBuffer i b).flushes = s.flushes := rfl
@[simp] theorem State.setBuffer_blocks (s : State) (i : BufIx) (b : Buffer) : (s.setBuffer i b).blocks = s.blocks := rfl
@[simp] theorem State.setBuffer_dies (s : State) (i : BufIx) (b : Buffer) : (s.setBuffer i b).dies = s.dies := rfl
@[simp] theorem State.setBuffer_ceilings (s : State) (i : BufIx) (b : Buffer) : (s.setBuffer i b).ceilings = s.ceilings := rfl
@[simp] theorem State.setBuffer_reply (s : State) (i : BufIx) (b : Buffer) : (s.setBuffer i b).reply = s.reply := rfl
@[simp] theorem State.setBuffer_executing (s : State) (i : BufIx) (b : Buffer) : (s.setBuffer i b).executing = s.executing := rfl
@[simp] theorem State.setBuffer_ticketCounter (s : State) (i : BufIx) (b : Buffer) : (s.setBuffer i b).ticketCounter = s.ticketCounter := rfl
@[simp] theorem State.setBuffer_completions (s : State) (i : BufIx) (b : Buffer) : (s.setBuffer i b).completions = s.completions := rfl
@[simp] theorem State.setBuffer_faultLog (s : State) (i : BufIx) (b : Buffer) : (s.setBuffer i b).faultLog = s.faultLog := rfl
@[simp] theorem State.setBuffer_overflow (s : State) (i : BufIx) (b : Buffer) : (s.setBuffer i b).overflow = s.overflow := rfl
@[simp] theorem State.setBuffer_sequence (s : State) (i : BufIx) (b : Buffer) : (s.setBuffer i b).sequence = s.sequence := rfl
@[simp] theorem State.setBuffer_out (s : State) (i : BufIx) (b : Buffer) : (s.setBuffer i b).out = s.out := rfl
@[simp] theorem State.setBuffer_pending (s : State) (i : BufIx) (b : Buffer) : (s.setBuffer i b).pending = s.pending := rfl

/-! ## `State.setBlock` -/

@[simp] theorem State.setBlock_now (s : State) (g : GlobalBlock) (b : BlockRecord) : (s.setBlock g b).now = s.now := rfl
@[simp] theorem State.setBlock_mode (s : State) (g : GlobalBlock) (b : BlockRecord) : (s.setBlock g b).mode = s.mode := rfl
@[simp] theorem State.setBlock_rstnLow (s : State) (g : GlobalBlock) (b : BlockRecord) : (s.setBlock g b).rstnLow = s.rstnLow := rfl
@[simp] theorem State.setBlock_dcount (s : State) (g : GlobalBlock) (b : BlockRecord) : (s.setBlock g b).dcount = s.dcount := rfl
@[simp] theorem State.setBlock_protnPin (s : State) (g : GlobalBlock) (b : BlockRecord) : (s.setBlock g b).protnPin = s.protnPin := rfl
@[simp] theorem State.setBlock_protn (s : State) (g : GlobalBlock) (b : BlockRecord) : (s.setBlock g b).protn = s.protn := rfl
@[simp] theorem State.setBlock_settings (s : State) (g : GlobalBlock) (b : BlockRecord) : (s.setBlock g b).settings = s.settings := rfl
@[simp] theorem State.setBlock_table (s : State) (g : GlobalBlock) (b : BlockRecord) : (s.setBlock g b).table = s.table := rfl
@[simp] theorem State.setBlock_responses (s : State) (g : GlobalBlock) (b : BlockRecord) : (s.setBlock g b).responses = s.responses := rfl
@[simp] theorem State.setBlock_regions (s : State) (g : GlobalBlock) (b : BlockRecord) : (s.setBlock g b).regions = s.regions := rfl
@[simp] theorem State.setBlock_buffers (s : State) (g : GlobalBlock) (b : BlockRecord) : (s.setBlock g b).buffers = s.buffers := rfl
@[simp] theorem State.setBlock_openCounter (s : State) (g : GlobalBlock) (b : BlockRecord) : (s.setBlock g b).openCounter = s.openCounter := rfl
@[simp] theorem State.setBlock_waitList (s : State) (g : GlobalBlock) (b : BlockRecord) : (s.setBlock g b).waitList = s.waitList := rfl
@[simp] theorem State.setBlock_flushes (s : State) (g : GlobalBlock) (b : BlockRecord) : (s.setBlock g b).flushes = s.flushes := rfl
@[simp] theorem State.setBlock_blocks (s : State) (g : GlobalBlock) (b : BlockRecord) : (s.setBlock g b).blocks = s.blocks.set g b := rfl
@[simp] theorem State.setBlock_dies (s : State) (g : GlobalBlock) (b : BlockRecord) : (s.setBlock g b).dies = s.dies := rfl
@[simp] theorem State.setBlock_ceilings (s : State) (g : GlobalBlock) (b : BlockRecord) : (s.setBlock g b).ceilings = s.ceilings := rfl
@[simp] theorem State.setBlock_reply (s : State) (g : GlobalBlock) (b : BlockRecord) : (s.setBlock g b).reply = s.reply := rfl
@[simp] theorem State.setBlock_executing (s : State) (g : GlobalBlock) (b : BlockRecord) : (s.setBlock g b).executing = s.executing := rfl
@[simp] theorem State.setBlock_ticketCounter (s : State) (g : GlobalBlock) (b : BlockRecord) : (s.setBlock g b).ticketCounter = s.ticketCounter := rfl
@[simp] theorem State.setBlock_completions (s : State) (g : GlobalBlock) (b : BlockRecord) : (s.setBlock g b).completions = s.completions := rfl
@[simp] theorem State.setBlock_faultLog (s : State) (g : GlobalBlock) (b : BlockRecord) : (s.setBlock g b).faultLog = s.faultLog := rfl
@[simp] theorem State.setBlock_overflow (s : State) (g : GlobalBlock) (b : BlockRecord) : (s.setBlock g b).overflow = s.overflow := rfl
@[simp] theorem State.setBlock_sequence (s : State) (g : GlobalBlock) (b : BlockRecord) : (s.setBlock g b).sequence = s.sequence := rfl
@[simp] theorem State.setBlock_out (s : State) (g : GlobalBlock) (b : BlockRecord) : (s.setBlock g b).out = s.out := rfl
@[simp] theorem State.setBlock_pending (s : State) (g : GlobalBlock) (b : BlockRecord) : (s.setBlock g b).pending = s.pending := rfl

/-! ## `State.modifyBlock` -/

@[simp] theorem State.modifyBlock_now (s : State) (g : GlobalBlock) (f : BlockRecord → BlockRecord) : (s.modifyBlock g f).now = s.now := rfl
@[simp] theorem State.modifyBlock_mode (s : State) (g : GlobalBlock) (f : BlockRecord → BlockRecord) : (s.modifyBlock g f).mode = s.mode := rfl
@[simp] theorem State.modifyBlock_rstnLow (s : State) (g : GlobalBlock) (f : BlockRecord → BlockRecord) : (s.modifyBlock g f).rstnLow = s.rstnLow := rfl
@[simp] theorem State.modifyBlock_dcount (s : State) (g : GlobalBlock) (f : BlockRecord → BlockRecord) : (s.modifyBlock g f).dcount = s.dcount := rfl
@[simp] theorem State.modifyBlock_protnPin (s : State) (g : GlobalBlock) (f : BlockRecord → BlockRecord) : (s.modifyBlock g f).protnPin = s.protnPin := rfl
@[simp] theorem State.modifyBlock_protn (s : State) (g : GlobalBlock) (f : BlockRecord → BlockRecord) : (s.modifyBlock g f).protn = s.protn := rfl
@[simp] theorem State.modifyBlock_settings (s : State) (g : GlobalBlock) (f : BlockRecord → BlockRecord) : (s.modifyBlock g f).settings = s.settings := rfl
@[simp] theorem State.modifyBlock_table (s : State) (g : GlobalBlock) (f : BlockRecord → BlockRecord) : (s.modifyBlock g f).table = s.table := rfl
@[simp] theorem State.modifyBlock_responses (s : State) (g : GlobalBlock) (f : BlockRecord → BlockRecord) : (s.modifyBlock g f).responses = s.responses := rfl
@[simp] theorem State.modifyBlock_regions (s : State) (g : GlobalBlock) (f : BlockRecord → BlockRecord) : (s.modifyBlock g f).regions = s.regions := rfl
@[simp] theorem State.modifyBlock_buffers (s : State) (g : GlobalBlock) (f : BlockRecord → BlockRecord) : (s.modifyBlock g f).buffers = s.buffers := rfl
@[simp] theorem State.modifyBlock_openCounter (s : State) (g : GlobalBlock) (f : BlockRecord → BlockRecord) : (s.modifyBlock g f).openCounter = s.openCounter := rfl
@[simp] theorem State.modifyBlock_waitList (s : State) (g : GlobalBlock) (f : BlockRecord → BlockRecord) : (s.modifyBlock g f).waitList = s.waitList := rfl
@[simp] theorem State.modifyBlock_flushes (s : State) (g : GlobalBlock) (f : BlockRecord → BlockRecord) : (s.modifyBlock g f).flushes = s.flushes := rfl
@[simp] theorem State.modifyBlock_blocks (s : State) (g : GlobalBlock) (f : BlockRecord → BlockRecord) : (s.modifyBlock g f).blocks = s.blocks.set g (f (s.block g)) := rfl
@[simp] theorem State.modifyBlock_dies (s : State) (g : GlobalBlock) (f : BlockRecord → BlockRecord) : (s.modifyBlock g f).dies = s.dies := rfl
@[simp] theorem State.modifyBlock_ceilings (s : State) (g : GlobalBlock) (f : BlockRecord → BlockRecord) : (s.modifyBlock g f).ceilings = s.ceilings := rfl
@[simp] theorem State.modifyBlock_reply (s : State) (g : GlobalBlock) (f : BlockRecord → BlockRecord) : (s.modifyBlock g f).reply = s.reply := rfl
@[simp] theorem State.modifyBlock_executing (s : State) (g : GlobalBlock) (f : BlockRecord → BlockRecord) : (s.modifyBlock g f).executing = s.executing := rfl
@[simp] theorem State.modifyBlock_ticketCounter (s : State) (g : GlobalBlock) (f : BlockRecord → BlockRecord) : (s.modifyBlock g f).ticketCounter = s.ticketCounter := rfl
@[simp] theorem State.modifyBlock_completions (s : State) (g : GlobalBlock) (f : BlockRecord → BlockRecord) : (s.modifyBlock g f).completions = s.completions := rfl
@[simp] theorem State.modifyBlock_faultLog (s : State) (g : GlobalBlock) (f : BlockRecord → BlockRecord) : (s.modifyBlock g f).faultLog = s.faultLog := rfl
@[simp] theorem State.modifyBlock_overflow (s : State) (g : GlobalBlock) (f : BlockRecord → BlockRecord) : (s.modifyBlock g f).overflow = s.overflow := rfl
@[simp] theorem State.modifyBlock_sequence (s : State) (g : GlobalBlock) (f : BlockRecord → BlockRecord) : (s.modifyBlock g f).sequence = s.sequence := rfl
@[simp] theorem State.modifyBlock_out (s : State) (g : GlobalBlock) (f : BlockRecord → BlockRecord) : (s.modifyBlock g f).out = s.out := rfl
@[simp] theorem State.modifyBlock_pending (s : State) (g : GlobalBlock) (f : BlockRecord → BlockRecord) : (s.modifyBlock g f).pending = s.pending := rfl

/-! ## `State.mapBlocks` -/

@[simp] theorem State.mapBlocks_now (s : State) (f : Nat → BlockRecord → BlockRecord) : (s.mapBlocks f).now = s.now := rfl
@[simp] theorem State.mapBlocks_mode (s : State) (f : Nat → BlockRecord → BlockRecord) : (s.mapBlocks f).mode = s.mode := rfl
@[simp] theorem State.mapBlocks_rstnLow (s : State) (f : Nat → BlockRecord → BlockRecord) : (s.mapBlocks f).rstnLow = s.rstnLow := rfl
@[simp] theorem State.mapBlocks_dcount (s : State) (f : Nat → BlockRecord → BlockRecord) : (s.mapBlocks f).dcount = s.dcount := rfl
@[simp] theorem State.mapBlocks_protnPin (s : State) (f : Nat → BlockRecord → BlockRecord) : (s.mapBlocks f).protnPin = s.protnPin := rfl
@[simp] theorem State.mapBlocks_protn (s : State) (f : Nat → BlockRecord → BlockRecord) : (s.mapBlocks f).protn = s.protn := rfl
@[simp] theorem State.mapBlocks_settings (s : State) (f : Nat → BlockRecord → BlockRecord) : (s.mapBlocks f).settings = s.settings := rfl
@[simp] theorem State.mapBlocks_table (s : State) (f : Nat → BlockRecord → BlockRecord) : (s.mapBlocks f).table = s.table := rfl
@[simp] theorem State.mapBlocks_responses (s : State) (f : Nat → BlockRecord → BlockRecord) : (s.mapBlocks f).responses = s.responses := rfl
@[simp] theorem State.mapBlocks_regions (s : State) (f : Nat → BlockRecord → BlockRecord) : (s.mapBlocks f).regions = s.regions := rfl
@[simp] theorem State.mapBlocks_buffers (s : State) (f : Nat → BlockRecord → BlockRecord) : (s.mapBlocks f).buffers = s.buffers := rfl
@[simp] theorem State.mapBlocks_openCounter (s : State) (f : Nat → BlockRecord → BlockRecord) : (s.mapBlocks f).openCounter = s.openCounter := rfl
@[simp] theorem State.mapBlocks_waitList (s : State) (f : Nat → BlockRecord → BlockRecord) : (s.mapBlocks f).waitList = s.waitList := rfl
@[simp] theorem State.mapBlocks_flushes (s : State) (f : Nat → BlockRecord → BlockRecord) : (s.mapBlocks f).flushes = s.flushes := rfl
@[simp] theorem State.mapBlocks_blocks (s : State) (f : Nat → BlockRecord → BlockRecord) : (s.mapBlocks f).blocks = mapIndexed f s.blocks := rfl
@[simp] theorem State.mapBlocks_dies (s : State) (f : Nat → BlockRecord → BlockRecord) : (s.mapBlocks f).dies = s.dies := rfl
@[simp] theorem State.mapBlocks_ceilings (s : State) (f : Nat → BlockRecord → BlockRecord) : (s.mapBlocks f).ceilings = s.ceilings := rfl
@[simp] theorem State.mapBlocks_reply (s : State) (f : Nat → BlockRecord → BlockRecord) : (s.mapBlocks f).reply = s.reply := rfl
@[simp] theorem State.mapBlocks_executing (s : State) (f : Nat → BlockRecord → BlockRecord) : (s.mapBlocks f).executing = s.executing := rfl
@[simp] theorem State.mapBlocks_ticketCounter (s : State) (f : Nat → BlockRecord → BlockRecord) : (s.mapBlocks f).ticketCounter = s.ticketCounter := rfl
@[simp] theorem State.mapBlocks_completions (s : State) (f : Nat → BlockRecord → BlockRecord) : (s.mapBlocks f).completions = s.completions := rfl
@[simp] theorem State.mapBlocks_faultLog (s : State) (f : Nat → BlockRecord → BlockRecord) : (s.mapBlocks f).faultLog = s.faultLog := rfl
@[simp] theorem State.mapBlocks_overflow (s : State) (f : Nat → BlockRecord → BlockRecord) : (s.mapBlocks f).overflow = s.overflow := rfl
@[simp] theorem State.mapBlocks_sequence (s : State) (f : Nat → BlockRecord → BlockRecord) : (s.mapBlocks f).sequence = s.sequence := rfl
@[simp] theorem State.mapBlocks_out (s : State) (f : Nat → BlockRecord → BlockRecord) : (s.mapBlocks f).out = s.out := rfl
@[simp] theorem State.mapBlocks_pending (s : State) (f : Nat → BlockRecord → BlockRecord) : (s.mapBlocks f).pending = s.pending := rfl

/-! ## `State.setDie` -/

@[simp] theorem State.setDie_now (s : State) (d : DieIx) (x : Die) : (s.setDie d x).now = s.now := rfl
@[simp] theorem State.setDie_mode (s : State) (d : DieIx) (x : Die) : (s.setDie d x).mode = s.mode := rfl
@[simp] theorem State.setDie_rstnLow (s : State) (d : DieIx) (x : Die) : (s.setDie d x).rstnLow = s.rstnLow := rfl
@[simp] theorem State.setDie_dcount (s : State) (d : DieIx) (x : Die) : (s.setDie d x).dcount = s.dcount := rfl
@[simp] theorem State.setDie_protnPin (s : State) (d : DieIx) (x : Die) : (s.setDie d x).protnPin = s.protnPin := rfl
@[simp] theorem State.setDie_protn (s : State) (d : DieIx) (x : Die) : (s.setDie d x).protn = s.protn := rfl
@[simp] theorem State.setDie_settings (s : State) (d : DieIx) (x : Die) : (s.setDie d x).settings = s.settings := rfl
@[simp] theorem State.setDie_table (s : State) (d : DieIx) (x : Die) : (s.setDie d x).table = s.table := rfl
@[simp] theorem State.setDie_responses (s : State) (d : DieIx) (x : Die) : (s.setDie d x).responses = s.responses := rfl
@[simp] theorem State.setDie_regions (s : State) (d : DieIx) (x : Die) : (s.setDie d x).regions = s.regions := rfl
@[simp] theorem State.setDie_buffers (s : State) (d : DieIx) (x : Die) : (s.setDie d x).buffers = s.buffers := rfl
@[simp] theorem State.setDie_openCounter (s : State) (d : DieIx) (x : Die) : (s.setDie d x).openCounter = s.openCounter := rfl
@[simp] theorem State.setDie_waitList (s : State) (d : DieIx) (x : Die) : (s.setDie d x).waitList = s.waitList := rfl
@[simp] theorem State.setDie_flushes (s : State) (d : DieIx) (x : Die) : (s.setDie d x).flushes = s.flushes := rfl
@[simp] theorem State.setDie_blocks (s : State) (d : DieIx) (x : Die) : (s.setDie d x).blocks = s.blocks := rfl
@[simp] theorem State.setDie_dies (s : State) (d : DieIx) (x : Die) : (s.setDie d x).dies = s.dies.set d x := rfl
@[simp] theorem State.setDie_ceilings (s : State) (d : DieIx) (x : Die) : (s.setDie d x).ceilings = s.ceilings := rfl
@[simp] theorem State.setDie_reply (s : State) (d : DieIx) (x : Die) : (s.setDie d x).reply = s.reply := rfl
@[simp] theorem State.setDie_executing (s : State) (d : DieIx) (x : Die) : (s.setDie d x).executing = s.executing := rfl
@[simp] theorem State.setDie_ticketCounter (s : State) (d : DieIx) (x : Die) : (s.setDie d x).ticketCounter = s.ticketCounter := rfl
@[simp] theorem State.setDie_completions (s : State) (d : DieIx) (x : Die) : (s.setDie d x).completions = s.completions := rfl
@[simp] theorem State.setDie_faultLog (s : State) (d : DieIx) (x : Die) : (s.setDie d x).faultLog = s.faultLog := rfl
@[simp] theorem State.setDie_overflow (s : State) (d : DieIx) (x : Die) : (s.setDie d x).overflow = s.overflow := rfl
@[simp] theorem State.setDie_sequence (s : State) (d : DieIx) (x : Die) : (s.setDie d x).sequence = s.sequence := rfl
@[simp] theorem State.setDie_out (s : State) (d : DieIx) (x : Die) : (s.setDie d x).out = s.out := rfl
@[simp] theorem State.setDie_pending (s : State) (d : DieIx) (x : Die) : (s.setDie d x).pending = s.pending := rfl

/-! ## `State.modifyDie` -/

@[simp] theorem State.modifyDie_now (s : State) (d : DieIx) (f : Die → Die) : (s.modifyDie d f).now = s.now := rfl
@[simp] theorem State.modifyDie_mode (s : State) (d : DieIx) (f : Die → Die) : (s.modifyDie d f).mode = s.mode := rfl
@[simp] theorem State.modifyDie_rstnLow (s : State) (d : DieIx) (f : Die → Die) : (s.modifyDie d f).rstnLow = s.rstnLow := rfl
@[simp] theorem State.modifyDie_dcount (s : State) (d : DieIx) (f : Die → Die) : (s.modifyDie d f).dcount = s.dcount := rfl
@[simp] theorem State.modifyDie_protnPin (s : State) (d : DieIx) (f : Die → Die) : (s.modifyDie d f).protnPin = s.protnPin := rfl
@[simp] theorem State.modifyDie_protn (s : State) (d : DieIx) (f : Die → Die) : (s.modifyDie d f).protn = s.protn := rfl
@[simp] theorem State.modifyDie_settings (s : State) (d : DieIx) (f : Die → Die) : (s.modifyDie d f).settings = s.settings := rfl
@[simp] theorem State.modifyDie_table (s : State) (d : DieIx) (f : Die → Die) : (s.modifyDie d f).table = s.table := rfl
@[simp] theorem State.modifyDie_responses (s : State) (d : DieIx) (f : Die → Die) : (s.modifyDie d f).responses = s.responses := rfl
@[simp] theorem State.modifyDie_regions (s : State) (d : DieIx) (f : Die → Die) : (s.modifyDie d f).regions = s.regions := rfl
@[simp] theorem State.modifyDie_buffers (s : State) (d : DieIx) (f : Die → Die) : (s.modifyDie d f).buffers = s.buffers := rfl
@[simp] theorem State.modifyDie_openCounter (s : State) (d : DieIx) (f : Die → Die) : (s.modifyDie d f).openCounter = s.openCounter := rfl
@[simp] theorem State.modifyDie_waitList (s : State) (d : DieIx) (f : Die → Die) : (s.modifyDie d f).waitList = s.waitList := rfl
@[simp] theorem State.modifyDie_flushes (s : State) (d : DieIx) (f : Die → Die) : (s.modifyDie d f).flushes = s.flushes := rfl
@[simp] theorem State.modifyDie_blocks (s : State) (d : DieIx) (f : Die → Die) : (s.modifyDie d f).blocks = s.blocks := rfl
@[simp] theorem State.modifyDie_dies (s : State) (d : DieIx) (f : Die → Die) : (s.modifyDie d f).dies = s.dies.set d (f (s.die d)) := rfl
@[simp] theorem State.modifyDie_ceilings (s : State) (d : DieIx) (f : Die → Die) : (s.modifyDie d f).ceilings = s.ceilings := rfl
@[simp] theorem State.modifyDie_reply (s : State) (d : DieIx) (f : Die → Die) : (s.modifyDie d f).reply = s.reply := rfl
@[simp] theorem State.modifyDie_executing (s : State) (d : DieIx) (f : Die → Die) : (s.modifyDie d f).executing = s.executing := rfl
@[simp] theorem State.modifyDie_ticketCounter (s : State) (d : DieIx) (f : Die → Die) : (s.modifyDie d f).ticketCounter = s.ticketCounter := rfl
@[simp] theorem State.modifyDie_completions (s : State) (d : DieIx) (f : Die → Die) : (s.modifyDie d f).completions = s.completions := rfl
@[simp] theorem State.modifyDie_faultLog (s : State) (d : DieIx) (f : Die → Die) : (s.modifyDie d f).faultLog = s.faultLog := rfl
@[simp] theorem State.modifyDie_overflow (s : State) (d : DieIx) (f : Die → Die) : (s.modifyDie d f).overflow = s.overflow := rfl
@[simp] theorem State.modifyDie_sequence (s : State) (d : DieIx) (f : Die → Die) : (s.modifyDie d f).sequence = s.sequence := rfl
@[simp] theorem State.modifyDie_out (s : State) (d : DieIx) (f : Die → Die) : (s.modifyDie d f).out = s.out := rfl
@[simp] theorem State.modifyDie_pending (s : State) (d : DieIx) (f : Die → Die) : (s.modifyDie d f).pending = s.pending := rfl

/-! ## `State.setRequest` -/

@[simp] theorem State.setRequest_now (s : State) (t : Tag) (r : Option Request) : (s.setRequest t r).now = s.now := rfl
@[simp] theorem State.setRequest_mode (s : State) (t : Tag) (r : Option Request) : (s.setRequest t r).mode = s.mode := rfl
@[simp] theorem State.setRequest_rstnLow (s : State) (t : Tag) (r : Option Request) : (s.setRequest t r).rstnLow = s.rstnLow := rfl
@[simp] theorem State.setRequest_dcount (s : State) (t : Tag) (r : Option Request) : (s.setRequest t r).dcount = s.dcount := rfl
@[simp] theorem State.setRequest_protnPin (s : State) (t : Tag) (r : Option Request) : (s.setRequest t r).protnPin = s.protnPin := rfl
@[simp] theorem State.setRequest_protn (s : State) (t : Tag) (r : Option Request) : (s.setRequest t r).protn = s.protn := rfl
@[simp] theorem State.setRequest_settings (s : State) (t : Tag) (r : Option Request) : (s.setRequest t r).settings = s.settings := rfl
@[simp] theorem State.setRequest_table (s : State) (t : Tag) (r : Option Request) : (s.setRequest t r).table = s.table.set t r := rfl
@[simp] theorem State.setRequest_responses (s : State) (t : Tag) (r : Option Request) : (s.setRequest t r).responses = s.responses := rfl
@[simp] theorem State.setRequest_regions (s : State) (t : Tag) (r : Option Request) : (s.setRequest t r).regions = s.regions := rfl
@[simp] theorem State.setRequest_buffers (s : State) (t : Tag) (r : Option Request) : (s.setRequest t r).buffers = s.buffers := rfl
@[simp] theorem State.setRequest_openCounter (s : State) (t : Tag) (r : Option Request) : (s.setRequest t r).openCounter = s.openCounter := rfl
@[simp] theorem State.setRequest_waitList (s : State) (t : Tag) (r : Option Request) : (s.setRequest t r).waitList = s.waitList := rfl
@[simp] theorem State.setRequest_flushes (s : State) (t : Tag) (r : Option Request) : (s.setRequest t r).flushes = s.flushes := rfl
@[simp] theorem State.setRequest_blocks (s : State) (t : Tag) (r : Option Request) : (s.setRequest t r).blocks = s.blocks := rfl
@[simp] theorem State.setRequest_dies (s : State) (t : Tag) (r : Option Request) : (s.setRequest t r).dies = s.dies := rfl
@[simp] theorem State.setRequest_ceilings (s : State) (t : Tag) (r : Option Request) : (s.setRequest t r).ceilings = s.ceilings := rfl
@[simp] theorem State.setRequest_reply (s : State) (t : Tag) (r : Option Request) : (s.setRequest t r).reply = s.reply := rfl
@[simp] theorem State.setRequest_executing (s : State) (t : Tag) (r : Option Request) : (s.setRequest t r).executing = s.executing := rfl
@[simp] theorem State.setRequest_ticketCounter (s : State) (t : Tag) (r : Option Request) : (s.setRequest t r).ticketCounter = s.ticketCounter := rfl
@[simp] theorem State.setRequest_completions (s : State) (t : Tag) (r : Option Request) : (s.setRequest t r).completions = s.completions := rfl
@[simp] theorem State.setRequest_faultLog (s : State) (t : Tag) (r : Option Request) : (s.setRequest t r).faultLog = s.faultLog := rfl
@[simp] theorem State.setRequest_overflow (s : State) (t : Tag) (r : Option Request) : (s.setRequest t r).overflow = s.overflow := rfl
@[simp] theorem State.setRequest_sequence (s : State) (t : Tag) (r : Option Request) : (s.setRequest t r).sequence = s.sequence := rfl
@[simp] theorem State.setRequest_out (s : State) (t : Tag) (r : Option Request) : (s.setRequest t r).out = s.out := rfl
@[simp] theorem State.setRequest_pending (s : State) (t : Tag) (r : Option Request) : (s.setRequest t r).pending = s.pending := rfl

/-! ## `State.joinWait` -/

@[simp] theorem State.joinWait_now (s : State) (t : Tag) : (s.joinWait t).now = s.now := rfl
@[simp] theorem State.joinWait_mode (s : State) (t : Tag) : (s.joinWait t).mode = s.mode := rfl
@[simp] theorem State.joinWait_rstnLow (s : State) (t : Tag) : (s.joinWait t).rstnLow = s.rstnLow := rfl
@[simp] theorem State.joinWait_dcount (s : State) (t : Tag) : (s.joinWait t).dcount = s.dcount := rfl
@[simp] theorem State.joinWait_protnPin (s : State) (t : Tag) : (s.joinWait t).protnPin = s.protnPin := rfl
@[simp] theorem State.joinWait_protn (s : State) (t : Tag) : (s.joinWait t).protn = s.protn := rfl
@[simp] theorem State.joinWait_settings (s : State) (t : Tag) : (s.joinWait t).settings = s.settings := rfl
@[simp] theorem State.joinWait_table (s : State) (t : Tag) : (s.joinWait t).table = s.table := rfl
@[simp] theorem State.joinWait_responses (s : State) (t : Tag) : (s.joinWait t).responses = s.responses := rfl
@[simp] theorem State.joinWait_regions (s : State) (t : Tag) : (s.joinWait t).regions = s.regions := rfl
@[simp] theorem State.joinWait_buffers (s : State) (t : Tag) : (s.joinWait t).buffers = s.buffers := rfl
@[simp] theorem State.joinWait_openCounter (s : State) (t : Tag) : (s.joinWait t).openCounter = s.openCounter := rfl
@[simp] theorem State.joinWait_waitList (s : State) (t : Tag) : (s.joinWait t).waitList = s.waitList ++ [t] := rfl
@[simp] theorem State.joinWait_flushes (s : State) (t : Tag) : (s.joinWait t).flushes = s.flushes := rfl
@[simp] theorem State.joinWait_blocks (s : State) (t : Tag) : (s.joinWait t).blocks = s.blocks := rfl
@[simp] theorem State.joinWait_dies (s : State) (t : Tag) : (s.joinWait t).dies = s.dies := rfl
@[simp] theorem State.joinWait_ceilings (s : State) (t : Tag) : (s.joinWait t).ceilings = s.ceilings := rfl
@[simp] theorem State.joinWait_reply (s : State) (t : Tag) : (s.joinWait t).reply = s.reply := rfl
@[simp] theorem State.joinWait_executing (s : State) (t : Tag) : (s.joinWait t).executing = s.executing := rfl
@[simp] theorem State.joinWait_ticketCounter (s : State) (t : Tag) : (s.joinWait t).ticketCounter = s.ticketCounter := rfl
@[simp] theorem State.joinWait_completions (s : State) (t : Tag) : (s.joinWait t).completions = s.completions := rfl
@[simp] theorem State.joinWait_faultLog (s : State) (t : Tag) : (s.joinWait t).faultLog = s.faultLog := rfl
@[simp] theorem State.joinWait_overflow (s : State) (t : Tag) : (s.joinWait t).overflow = s.overflow := rfl
@[simp] theorem State.joinWait_sequence (s : State) (t : Tag) : (s.joinWait t).sequence = s.sequence := rfl
@[simp] theorem State.joinWait_out (s : State) (t : Tag) : (s.joinWait t).out = s.out := rfl
@[simp] theorem State.joinWait_pending (s : State) (t : Tag) : (s.joinWait t).pending = s.pending := rfl

/-! ## `State.leaveWait` -/

@[simp] theorem State.leaveWait_now (s : State) (t : Tag) : (s.leaveWait t).now = s.now := rfl
@[simp] theorem State.leaveWait_mode (s : State) (t : Tag) : (s.leaveWait t).mode = s.mode := rfl
@[simp] theorem State.leaveWait_rstnLow (s : State) (t : Tag) : (s.leaveWait t).rstnLow = s.rstnLow := rfl
@[simp] theorem State.leaveWait_dcount (s : State) (t : Tag) : (s.leaveWait t).dcount = s.dcount := rfl
@[simp] theorem State.leaveWait_protnPin (s : State) (t : Tag) : (s.leaveWait t).protnPin = s.protnPin := rfl
@[simp] theorem State.leaveWait_protn (s : State) (t : Tag) : (s.leaveWait t).protn = s.protn := rfl
@[simp] theorem State.leaveWait_settings (s : State) (t : Tag) : (s.leaveWait t).settings = s.settings := rfl
@[simp] theorem State.leaveWait_table (s : State) (t : Tag) : (s.leaveWait t).table = s.table := rfl
@[simp] theorem State.leaveWait_responses (s : State) (t : Tag) : (s.leaveWait t).responses = s.responses := rfl
@[simp] theorem State.leaveWait_regions (s : State) (t : Tag) : (s.leaveWait t).regions = s.regions := rfl
@[simp] theorem State.leaveWait_buffers (s : State) (t : Tag) : (s.leaveWait t).buffers = s.buffers := rfl
@[simp] theorem State.leaveWait_openCounter (s : State) (t : Tag) : (s.leaveWait t).openCounter = s.openCounter := rfl
@[simp] theorem State.leaveWait_waitList (s : State) (t : Tag) : (s.leaveWait t).waitList = s.waitList.filter (· != t) := rfl
@[simp] theorem State.leaveWait_flushes (s : State) (t : Tag) : (s.leaveWait t).flushes = s.flushes := rfl
@[simp] theorem State.leaveWait_blocks (s : State) (t : Tag) : (s.leaveWait t).blocks = s.blocks := rfl
@[simp] theorem State.leaveWait_dies (s : State) (t : Tag) : (s.leaveWait t).dies = s.dies := rfl
@[simp] theorem State.leaveWait_ceilings (s : State) (t : Tag) : (s.leaveWait t).ceilings = s.ceilings := rfl
@[simp] theorem State.leaveWait_reply (s : State) (t : Tag) : (s.leaveWait t).reply = s.reply := rfl
@[simp] theorem State.leaveWait_executing (s : State) (t : Tag) : (s.leaveWait t).executing = s.executing := rfl
@[simp] theorem State.leaveWait_ticketCounter (s : State) (t : Tag) : (s.leaveWait t).ticketCounter = s.ticketCounter := rfl
@[simp] theorem State.leaveWait_completions (s : State) (t : Tag) : (s.leaveWait t).completions = s.completions := rfl
@[simp] theorem State.leaveWait_faultLog (s : State) (t : Tag) : (s.leaveWait t).faultLog = s.faultLog := rfl
@[simp] theorem State.leaveWait_overflow (s : State) (t : Tag) : (s.leaveWait t).overflow = s.overflow := rfl
@[simp] theorem State.leaveWait_sequence (s : State) (t : Tag) : (s.leaveWait t).sequence = s.sequence := rfl
@[simp] theorem State.leaveWait_out (s : State) (t : Tag) : (s.leaveWait t).out = s.out := rfl
@[simp] theorem State.leaveWait_pending (s : State) (t : Tag) : (s.leaveWait t).pending = s.pending := rfl

/-! ## Reading after a write -/

@[simp] theorem State.buffer_setBuffer (s : State) (i j : BufIx) (b : Buffer) :
    (s.setBuffer i b).buffer j = if i = j then b else s.buffer j := by
  simp [State.buffer, Vector.getElem_set, Fin.ext_iff]

@[simp] theorem State.block_setBlock (s : State) (g h : GlobalBlock) (b : BlockRecord) :
    (s.setBlock g b).block h = if g = h then b else s.block h := by
  simp [State.block, Vector.getElem_set, Fin.ext_iff]

@[simp] theorem State.block_modifyBlock (s : State) (g h : GlobalBlock) (f : BlockRecord → BlockRecord) :
    (s.modifyBlock g f).block h = if g = h then f (s.block g) else s.block h := by
  simp [State.modifyBlock]

@[simp] theorem State.die_setDie (s : State) (d e : DieIx) (x : Die) :
    (s.setDie d x).die e = if d = e then x else s.die e := by
  simp [State.die, Vector.getElem_set, Fin.ext_iff]

@[simp] theorem State.die_modifyDie (s : State) (d e : DieIx) (f : Die → Die) :
    (s.modifyDie d f).die e = if d = e then f (s.die d) else s.die e := by
  simp [State.modifyDie]

@[simp] theorem State.request_setRequest (s : State) (t u : Tag) (r : Option Request) :
    (s.setRequest t r).request u = if t = u then r else s.request u := by
  simp [State.request, Vector.getElem_set, Fin.ext_iff]

/-! ## Accessors of what an update does not touch -/

@[simp] theorem State.buffer_quiet (s : State) (i' : BufIx) : s.quiet.buffer i' = s.buffer i' := rfl
@[simp] theorem State.block_quiet (s : State) (g' : GlobalBlock) : s.quiet.block g' = s.block g' := rfl
@[simp] theorem State.die_quiet (s : State) (d' : DieIx) : s.quiet.die d' = s.die d' := rfl
@[simp] theorem State.request_quiet (s : State) (t' : Tag) : s.quiet.request t' = s.request t' := rfl
@[simp] theorem State.buffer_reach (s : State) (due : Nat) (i' : BufIx) : (s.reach due).buffer i' = s.buffer i' := rfl
@[simp] theorem State.block_reach (s : State) (due : Nat) (g' : GlobalBlock) : (s.reach due).block g' = s.block g' := rfl
@[simp] theorem State.die_reach (s : State) (due : Nat) (d' : DieIx) : (s.reach due).die d' = s.die d' := rfl
@[simp] theorem State.request_reach (s : State) (due : Nat) (t' : Tag) : (s.reach due).request t' = s.request t' := rfl
@[simp] theorem State.buffer_send (s : State) (d : DieIx) (m : DieMessage) (i' : BufIx) : (s.send d m).buffer i' = s.buffer i' := rfl
@[simp] theorem State.block_send (s : State) (d : DieIx) (m : DieMessage) (g' : GlobalBlock) : (s.send d m).block g' = s.block g' := rfl
@[simp] theorem State.die_send (s : State) (d : DieIx) (m : DieMessage) (d' : DieIx) : (s.send d m).die d' = s.die d' := rfl
@[simp] theorem State.request_send (s : State) (d : DieIx) (m : DieMessage) (t' : Tag) : (s.send d m).request t' = s.request t' := rfl
@[simp] theorem State.buffer_respond (s : State) (r : Response) (i' : BufIx) : (s.respond r).buffer i' = s.buffer i' := rfl
@[simp] theorem State.block_respond (s : State) (r : Response) (g' : GlobalBlock) : (s.respond r).block g' = s.block g' := rfl
@[simp] theorem State.die_respond (s : State) (r : Response) (d' : DieIx) : (s.respond r).die d' = s.die d' := rfl
@[simp] theorem State.request_respond (s : State) (r : Response) (t' : Tag) : (s.respond r).request t' = s.request t' := rfl
@[simp] theorem State.buffer_complete (s : State) (c : Completion) (i' : BufIx) : (s.complete c).buffer i' = s.buffer i' := rfl
@[simp] theorem State.block_complete (s : State) (c : Completion) (g' : GlobalBlock) : (s.complete c).block g' = s.block g' := rfl
@[simp] theorem State.die_complete (s : State) (c : Completion) (d' : DieIx) : (s.complete c).die d' = s.die d' := rfl
@[simp] theorem State.request_complete (s : State) (c : Completion) (t' : Tag) : (s.complete c).request t' = s.request t' := rfl
@[simp] theorem State.buffer_giveTicket (s : State) (t : Ticket) (i' : BufIx) : (s.giveTicket t).buffer i' = s.buffer i' := rfl
@[simp] theorem State.block_giveTicket (s : State) (t : Ticket) (g' : GlobalBlock) : (s.giveTicket t).block g' = s.block g' := rfl
@[simp] theorem State.die_giveTicket (s : State) (t : Ticket) (d' : DieIx) : (s.giveTicket t).die d' = s.die d' := rfl
@[simp] theorem State.request_giveTicket (s : State) (t : Ticket) (t' : Tag) : (s.giveTicket t).request t' = s.request t' := rfl
@[simp] theorem State.block_setBuffer (s : State) (i : BufIx) (b : Buffer) (g' : GlobalBlock) : (s.setBuffer i b).block g' = s.block g' := rfl
@[simp] theorem State.die_setBuffer (s : State) (i : BufIx) (b : Buffer) (d' : DieIx) : (s.setBuffer i b).die d' = s.die d' := rfl
@[simp] theorem State.request_setBuffer (s : State) (i : BufIx) (b : Buffer) (t' : Tag) : (s.setBuffer i b).request t' = s.request t' := rfl
@[simp] theorem State.buffer_setBlock (s : State) (g : GlobalBlock) (b : BlockRecord) (i' : BufIx) : (s.setBlock g b).buffer i' = s.buffer i' := rfl
@[simp] theorem State.die_setBlock (s : State) (g : GlobalBlock) (b : BlockRecord) (d' : DieIx) : (s.setBlock g b).die d' = s.die d' := rfl
@[simp] theorem State.request_setBlock (s : State) (g : GlobalBlock) (b : BlockRecord) (t' : Tag) : (s.setBlock g b).request t' = s.request t' := rfl
@[simp] theorem State.buffer_modifyBlock (s : State) (g : GlobalBlock) (f : BlockRecord → BlockRecord) (i' : BufIx) : (s.modifyBlock g f).buffer i' = s.buffer i' := rfl
@[simp] theorem State.die_modifyBlock (s : State) (g : GlobalBlock) (f : BlockRecord → BlockRecord) (d' : DieIx) : (s.modifyBlock g f).die d' = s.die d' := rfl
@[simp] theorem State.request_modifyBlock (s : State) (g : GlobalBlock) (f : BlockRecord → BlockRecord) (t' : Tag) : (s.modifyBlock g f).request t' = s.request t' := rfl
@[simp] theorem State.buffer_mapBlocks (s : State) (f : Nat → BlockRecord → BlockRecord) (i' : BufIx) : (s.mapBlocks f).buffer i' = s.buffer i' := rfl
@[simp] theorem State.die_mapBlocks (s : State) (f : Nat → BlockRecord → BlockRecord) (d' : DieIx) : (s.mapBlocks f).die d' = s.die d' := rfl
@[simp] theorem State.request_mapBlocks (s : State) (f : Nat → BlockRecord → BlockRecord) (t' : Tag) : (s.mapBlocks f).request t' = s.request t' := rfl
@[simp] theorem State.buffer_setDie (s : State) (d : DieIx) (x : Die) (i' : BufIx) : (s.setDie d x).buffer i' = s.buffer i' := rfl
@[simp] theorem State.block_setDie (s : State) (d : DieIx) (x : Die) (g' : GlobalBlock) : (s.setDie d x).block g' = s.block g' := rfl
@[simp] theorem State.request_setDie (s : State) (d : DieIx) (x : Die) (t' : Tag) : (s.setDie d x).request t' = s.request t' := rfl
@[simp] theorem State.buffer_modifyDie (s : State) (d : DieIx) (f : Die → Die) (i' : BufIx) : (s.modifyDie d f).buffer i' = s.buffer i' := rfl
@[simp] theorem State.block_modifyDie (s : State) (d : DieIx) (f : Die → Die) (g' : GlobalBlock) : (s.modifyDie d f).block g' = s.block g' := rfl
@[simp] theorem State.request_modifyDie (s : State) (d : DieIx) (f : Die → Die) (t' : Tag) : (s.modifyDie d f).request t' = s.request t' := rfl
@[simp] theorem State.buffer_setRequest (s : State) (t : Tag) (r : Option Request) (i' : BufIx) : (s.setRequest t r).buffer i' = s.buffer i' := rfl
@[simp] theorem State.block_setRequest (s : State) (t : Tag) (r : Option Request) (g' : GlobalBlock) : (s.setRequest t r).block g' = s.block g' := rfl
@[simp] theorem State.die_setRequest (s : State) (t : Tag) (r : Option Request) (d' : DieIx) : (s.setRequest t r).die d' = s.die d' := rfl
@[simp] theorem State.buffer_joinWait (s : State) (t : Tag) (i' : BufIx) : (s.joinWait t).buffer i' = s.buffer i' := rfl
@[simp] theorem State.block_joinWait (s : State) (t : Tag) (g' : GlobalBlock) : (s.joinWait t).block g' = s.block g' := rfl
@[simp] theorem State.die_joinWait (s : State) (t : Tag) (d' : DieIx) : (s.joinWait t).die d' = s.die d' := rfl
@[simp] theorem State.request_joinWait (s : State) (t : Tag) (t' : Tag) : (s.joinWait t).request t' = s.request t' := rfl
@[simp] theorem State.buffer_leaveWait (s : State) (t : Tag) (i' : BufIx) : (s.leaveWait t).buffer i' = s.buffer i' := rfl
@[simp] theorem State.block_leaveWait (s : State) (t : Tag) (g' : GlobalBlock) : (s.leaveWait t).block g' = s.block g' := rfl
@[simp] theorem State.die_leaveWait (s : State) (t : Tag) (d' : DieIx) : (s.leaveWait t).die d' = s.die d' := rfl
@[simp] theorem State.request_leaveWait (s : State) (t : Tag) (t' : Tag) : (s.leaveWait t).request t' = s.request t' := rfl

/-! ## Entries of a vector rewritten by index -/

theorem getElem_mapFrom {α : Type} (f : Nat → α → α) (l : List α) (k i : Nat) (h : i < (mapFrom f k l).length) :
    (mapFrom f k l)[i] = f (k + i) (l[i]'(by simpa [mapFrom_length] using h)) := by
  induction l generalizing k i with
  | nil => simp [mapFrom] at h
  | cons x xs ih =>
    cases i with
    | zero => simp [mapFrom]
    | succ i =>
      simp only [mapFrom, List.getElem_cons_succ]
      rw [ih]
      congr 1
      omega

/-- The entry at `i` of a vector rewritten by index. -/
@[simp] theorem getElem_mapIndexed {α : Type} {n : Nat} (f : Nat → α → α) (v : Vector α n) (i : Nat) (h : i < n) :
    (mapIndexed f v)[i] = f i v[i] := by
  have := getElem_mapFrom f v.toList 0 i (by simpa [mapFrom_length] using h)
  simpa [mapIndexed] using this

@[simp] theorem State.block_mapBlocks (s : State) (f : Nat → BlockRecord → BlockRecord) (g : GlobalBlock) :
    (s.mapBlocks f).block g = f g.val (s.block g) := by
  simp [State.block]

/-- A rewriting that leaves every entry as it is leaves the vector as it is. -/
theorem mapIndexed_eq_self {α : Type} {n : Nat} (f : Nat → α → α) (v : Vector α n)
    (h : ∀ (i : Nat) (hi : i < n), f i v[i] = v[i]) : mapIndexed f v = v := by
  ext i hi
  simp [h i hi]

end Sys2Proof.Machine
end

