-- ==== Sys2Proof/Laws/Buffers.lean ====
section
/-! SUPPORT. The terms the statements use for buffers, held lists and fault records, each tied to the operation that
it describes. -/

namespace Sys2Proof.Machine

open Sys2Proof

/-! ## Posting -/

/-- The posting causes of a statement are those the pool looks at after a merge (R10, R14). -/
theorem State.postingCause_iff (s : State) (i : BufIx) (l : LineAddr) (body : LineBody) :
    s.postingCause i l body = true ↔ s.postsNow i l body := by
  have full : body.written.toList.all id = true ↔ ∀ p : Fin 64, body.written[p] = true := by
    rw [List.all_eq_true]
    refine ⟨fun h p => h _ (by simp), fun h x hx => ?_⟩
    obtain ⟨n, hn, rfl⟩ := List.getElem_of_mem hx
    exact h ⟨n, by simpa using hn⟩
  have window : s.postsAtOnce l.global = true ↔ (s.regionOf l.global).map RegionEntry.posting = some .atOnce := by
    unfold State.postsAtOnce; split <;> simp [*]
  simp only [State.postingCause, State.postsNow, Bool.or_eq_true, beq_iff_eq, List.any_eq_true, List.contains_iff_mem,
    full, window, or_assoc]

/-- A FILLING buffer for which a posting cause holds is posted (R10). -/
theorem State.postIfCaused_posts {s : State} {i : BufIx} {l : LineAddr} {n : Nat} {body : LineBody} {p : Option BufIx}
    {due : Option Nat} (hb : s.buffer i = .filling l n body p due) (hc : s.postsNow i l body) :
    s.postIfCaused i = s.post i := by
  simp [State.postIfCaused, hb, (s.postingCause_iff i l body).2 hc]

/-- A FILLING buffer for which no posting cause holds stays as it is (R10). -/
theorem State.postIfCaused_stays {s : State} {i : BufIx} {l : LineAddr} {n : Nat} {body : LineBody} {p : Option BufIx}
    {due : Option Nat} (hb : s.buffer i = .filling l n body p due) (hc : ¬ s.postsNow i l body) :
    s.postIfCaused i = s := by
  simp [State.postIfCaused, hb, mt (s.postingCause_iff i l body).1 hc]

@[simp] theorem Buffer.asPosted_line? (b : Buffer) : b.asPosted.line? = b.line? := by cases b <;> rfl

@[simp] theorem Buffer.asPosted_predecessor? (b : Buffer) : b.asPosted.predecessor? = b.predecessor? := by
  cases b <;> rfl

@[simp] theorem programEntries_nil : programEntries [] = [] := rfl

@[simp] theorem programEntries_cons (i : BufIx) (is : List BufIx) :
    programEntries (i :: is) = .program i :: programEntries is := rfl

/-! ## A read pulled at a hand-over -/

/-- Where the opening write has opened a LOADING buffer the read joins its held list (R56). -/
theorem State.pulledReadCourse_loading {s : State} {r : Request} {i : BufIx} (hw : s.writeHeldAhead r = false)
    (ho : s.openBuffer r.line = some i) (hb : (s.buffer i).body? = none) : s.pulledReadCourse r = .joinHeld i := by
  simp [State.pulledReadCourse, hw, ho, hb]

/-- Where it has opened another buffer the read is answered from its image (R59, R114). -/
theorem State.pulledReadCourse_body {s : State} {r : Request} {i : BufIx} {body : LineBody}
    (hw : s.writeHeldAhead r = false) (ho : s.openBuffer r.line = some i) (hb : (s.buffer i).body? = some body) :
    s.pulledReadCourse r = .answered body.image := by
  simp [State.pulledReadCourse, hw, ho, hb]

/-- Behind an earlier write of its line that is held, an unmarked read of a block under erase joins the hold list
(R58, R143). -/
theorem State.pulledReadCourse_held {s : State} {r : Request} (hw : s.writeHeldAhead r = true)
    (hl : s.writeWaits r.line = false) (hh : s.writeHeldInBlock r.line = true)
    (he : (s.block r.line.global).erase ≠ .none) (hm : r.mark = false) : s.pulledReadCourse r = .hold := by
  simp [State.pulledReadCourse, State.readCourse, State.laterReadCourse, hw, hl, hh, he, hm]

/-- A write held ahead of a read is a write of its line in the block hold list. -/
theorem State.writeHeldInBlock_of_ahead {s : State} {r : Request} (hw : s.writeHeldAhead r = true) :
    s.writeHeldInBlock r.line = true := by
  simp only [State.writeHeldAhead, State.writeHeldInBlock, List.any_eq_true] at hw ⊢
  obtain ⟨t, ht, h⟩ := hw
  refine ⟨t, ht, ?_⟩
  cases hr : s.request t <;> simp_all [State.isWrite, State.isForLine]

/-! ## Requests of one line in order -/

@[simp] theorem meetInOrder_nil (mode : Request → AdmittedMode) (body : LineBody) :
    meetInOrder mode body [] = (body, []) := rfl

theorem meetInOrder_read (mode : Request → AdmittedMode) (body : LineBody) (t : Tag) (r : Request)
    (rest : List (Tag × Request)) (h : r.payload.isWrite = false) :
    meetInOrder mode body ((t, r) :: rest) =
      ((meetInOrder mode body rest).1, ⟨t, .ok, some (r.readData body.image)⟩ :: (meetInOrder mode body rest).2) := by
  simp [meetInOrder, h, Request.readData]

theorem meetInOrder_merged (mode : Request → AdmittedMode) (body : LineBody) (t : Tag) (r : Request)
    (rest : List (Tag × Request)) (h : r.payload.isWrite = true) (hf : r.fits (mode r) body = true) :
    meetInOrder mode body ((t, r) :: rest) =
      ((meetInOrder mode (body.overlay r) rest).1, ⟨t, .ok, none⟩ :: (meetInOrder mode (body.overlay r) rest).2) := by
  simp [meetInOrder, h, hf]

theorem meetInOrder_refused (mode : Request → AdmittedMode) (body : LineBody) (t : Tag) (r : Request)
    (rest : List (Tag × Request)) (h : r.payload.isWrite = true) (hf : r.fits (mode r) body = false) :
    meetInOrder mode body ((t, r) :: rest) =
      ((meetInOrder mode body rest).1, ⟨t, .refused (mode r).refusal, none⟩ :: (meetInOrder mode body rest).2) := by
  simp [meetInOrder, h, hf]

/-! ## Fault records -/

/-- Writing one fault record is the record of a statement (R170). -/
theorem State.writeFault_eq_recorded (s : State) (b : FaultBody) : s.writeFault b = s.recorded [b] := by
  unfold State.writeFault State.recorded Config.faultLogRoom
  by_cases h : s.faultLog.length < 16
  · have hd : (16 - s.faultLog.length) = (15 - s.faultLog.length) + 1 := by omega
    have ho : ¬ 16 < s.faultLog.length + 1 := by omega
    simp [h, hd, ho]
  · have hd : 16 - s.faultLog.length = 0 := by omega
    have ho : 16 < s.faultLog.length + 1 := by omega
    simp [h, hd, ho]

/-- Records written after others are the records of both lists written in order (R168, R170). -/
theorem State.recorded_append (s : State) (as bs : List FaultBody) :
    (s.recorded as).recorded bs = s.recorded (as ++ bs) := by
  have later : (bs.zipIdx as.length).map (fun b => FaultRecord.mk (s.sequence + BitVec.ofNat 16 b.2) b.1) =
      bs.zipIdx.map fun b => ⟨s.sequence + BitVec.ofNat 16 as.length + BitVec.ofNat 16 b.2, b.1⟩ := by
    rw [List.zipIdx_eq_map_add]
    simp [Function.comp_def, BitVec.add_assoc, BitVec.ofNat_add]
  have room : 16 - (s.faultLog.length + min (16 - s.faultLog.length) as.length) =
      16 - s.faultLog.length - as.length := by omega
  have mark : (16 < s.faultLog.length + as.length ∨
      16 < s.faultLog.length + min (16 - s.faultLog.length) as.length + bs.length) ↔
      16 < s.faultLog.length + (as.length + bs.length) := by omega
  simp only [State.recorded, List.zipIdx_append, List.map_append, List.take_append, List.length_append,
    List.length_take, List.length_map, List.length_zipIdx, List.append_assoc, Nat.zero_add, later, room, Bool.or_assoc,
    ← Bool.decide_or, mark, BitVec.ofNat_add, BitVec.add_assoc]

end Sys2Proof.Machine
end

