-- ==== Sys2Proof/Laws/Frames.lean ====
section
/-! SUPPORT. The two bytes of a 16-bit field spell it again (chapter 11). -/

namespace Sys2Proof

/-- A 16-bit field is the word of its two bytes. -/
@[simp] theorem word16_hiByte_loByte (w : BitVec 16) : word16 (hiByte w) (loByte w) = w := by
  unfold word16 hiByte loByte
  apply BitVec.eq_of_toNat_eq
  have := w.isLt
  simp only [BitVec.toNat_append, BitVec.extractLsb'_toNat, Nat.shiftRight_zero]
  rw [← Nat.shiftLeft_add_eq_or_of_lt (Nat.mod_lt _ (by decide)), Nat.shiftLeft_eq, Nat.shiftRight_eq_div_pow]
  omega

end Sys2Proof
end

