-- ==== Sys2Proof/Laws/Port.lean ====
section
/-! SUPPORT. A host request and the signals that carry it on HREQ: what the port reads from them is the request. -/

namespace Sys2Proof.Machine

open Sys2Proof

@[simp] theorem hostRequestSignals_address (t : Tag) (a : BitVec 27) (p : Payload) :
    (hostRequestSignals t a p).address = a := rfl

@[simp] theorem hostRequestSignals_tagValue (t : Tag) (a : BitVec 27) (p : Payload) :
    (hostRequestSignals t a p).tagValue = t := by
  ext
  simp [HostRequestSignals.tagValue, hostRequestSignals]

/-- The beats field, with 1 added, is the number of beats of a request that HREQ can carry (section 11.6). -/
theorem beatsField_succ (n : Nat) (h : beatsOk n = true) : (n - 1) % 8 + 1 = n := by
  simp only [beatsOk, Bool.and_eq_true, decide_eq_true_eq] at h
  omega

@[simp] theorem hostRequestSignals_read (t : Tag) (a : BitVec 27) (n : Nat) (h : beatsOk n = true) :
    (hostRequestSignals t a (.read n)).payload = .read n := by
  simp [HostRequestSignals.payload, hostRequestSignals, Payload.isWrite, Payload.beats, beatsField_succ n h]

@[simp] theorem hostRequestSignals_write (t : Tag) (a : BitVec 27) (beats : List Beat)
    (h : beatsOk beats.length = true) : (hostRequestSignals t a (.write beats)).payload = .write beats := by
  simp [HostRequestSignals.payload, hostRequestSignals, Payload.isWrite, Payload.beats, (beatsField_succ _ h).ge]

/-- A write that HREQ can carry is accepted as the request that was presented. -/
theorem State.present_write (s : State) (t : Tag) (a : BitVec 27) (beats : List Beat)
    (h : beatsOk beats.length = true) :
    s.present (hostRequestSignals t a (.write beats)) = s.acceptRequest t a (.write beats) State.writeArrives := by
  simp [State.present, h, Payload.isWrite]

/-- A read that HREQ can carry is accepted as the request that was presented. -/
theorem State.present_read (s : State) (t : Tag) (a : BitVec 27) (n : Nat) (h : beatsOk n = true) :
    s.present (hostRequestSignals t a (.read n)) = s.acceptRequest t a (.read n) State.readArrives := by
  simp [State.present, h, Payload.isWrite]

end Sys2Proof.Machine
end

