-- ==== Sys2Proof/Laws/Traffic.lean ====
section
/-! SUPPORT. What every operation of traffic keeps: the setup of the part, the room of the host port, the order of
acceptance and the bound of the fault log. One lemma per shared operation, so that a later proof cites it and unfolds nothing. -/

namespace Sys2Proof.Machine

open Sys2Proof

/-- The state `u` has the setup of `s`, no more outstanding requests and undelivered responses together, no request
outstanding that was not, each with its place in the order of acceptance, and a fault log within its bound where that
of `s` was. -/
structure State.Keeps (s u : State) : Prop where
  setup : u.setup = s.setup
  load : u.portLoad ≤ s.portLoad
  order : ∀ t r', u.request t = some r' → ∃ r, s.request t = some r ∧ r'.order = r.order
  log : s.FaultLogLaw → u.FaultLogLaw

theorem State.Keeps.refl (s : State) : s.Keeps s :=
  ⟨rfl, Nat.le_refl _, fun _ r h => ⟨r, h, rfl⟩, id⟩

theorem State.Keeps.trans {s u v : State} (h : s.Keeps u) (k : u.Keeps v) : s.Keeps v :=
  ⟨k.setup.trans h.setup, Nat.le_trans k.load h.load, fun t r'' hr => by
    obtain ⟨r', hr', e'⟩ := k.order t r'' hr
    obtain ⟨r, hr, e⟩ := h.order t r' hr'
    exact ⟨r, hr, e'.trans e⟩, fun l => k.log (h.log l)⟩

/-- Requests that keep their places keep the law of the order of acceptance. -/
theorem State.Keeps.orderLaw {s u : State} (h : s.Keeps u) (l : s.OrderLaw) : u.OrderLaw := by
  intro t t' r r' hr hr' e
  obtain ⟨q, hq, e₁⟩ := h.order t r hr
  obtain ⟨q', hq', e₂⟩ := h.order t' r' hr'
  exact l t t' q q' hq hq' (e₁ ▸ e₂ ▸ e)

/-- An update of pool, dies, time or outputs alone keeps what traffic keeps. -/
theorem State.Keeps.of_eq {s u : State} (setup : u.setup = s.setup) (table : u.table = s.table)
    (responses : u.responses = s.responses) (faultLog : u.faultLog = s.faultLog) : s.Keeps u := by
  refine ⟨setup, ?_, fun t r h => ⟨r, ?_, rfl⟩, ?_⟩
  · simp [State.portLoad, State.outstandingCount, table, responses]
  · simpa [State.request, table] using h
  · simp [State.FaultLogLaw, faultLog]

theorem State.Keeps.foldl {α : Type} (f : State → α → State) (hf : ∀ (s : State) (a : α), s.Keeps (f s a)) (l : List α) (s : State) :
    s.Keeps (l.foldl f s) := by
  induction l generalizing s with
  | nil => exact .refl s
  | cons a l ih => exact (hf s a).trans (ih _)

/-! ## Records -/

theorem State.keeps_quiet (s : State) : s.Keeps s.quiet := .of_eq rfl rfl rfl rfl

theorem State.keeps_reach (s : State) (due : Nat) : s.Keeps (s.reach due) := .of_eq rfl rfl rfl rfl

theorem State.keeps_send (s : State) (d : DieIx) (m : DieMessage) : s.Keeps (s.send d m) := .of_eq rfl rfl rfl rfl

theorem State.keeps_setBuffer (s : State) (i : BufIx) (b : Buffer) : s.Keeps (s.setBuffer i b) :=
  .of_eq rfl rfl rfl rfl

theorem State.keeps_setDie (s : State) (d : DieIx) (x : Die) : s.Keeps (s.setDie d x) := .of_eq rfl rfl rfl rfl

theorem State.keeps_modifyDie (s : State) (d : DieIx) (f : Die → Die) : s.Keeps (s.modifyDie d f) :=
  .of_eq rfl rfl rfl rfl

theorem State.keeps_complete (s : State) (c : Completion) : s.Keeps (s.complete c) := .of_eq rfl rfl rfl rfl

/-- The locks of a block table after a block record that keeps its lock is written. -/
theorem map_lock_set (v : Vector BlockRecord 1024) (g : GlobalBlock) (b : BlockRecord) (h : b.lock = (v[g]).lock) :
    (v.set g b).toList.map BlockRecord.lock = v.toList.map BlockRecord.lock := by
  apply List.ext_getElem (by simp)
  intro i h₁ h₂
  simp only [List.getElem_map, Vector.getElem_toList, Vector.getElem_set]
  split
  · next he => subst he; exact h
  · rfl

theorem State.keeps_setBlock (s : State) (g : GlobalBlock) (b : BlockRecord) (h : b.lock = (s.block g).lock) :
    s.Keeps (s.setBlock g b) :=
  .of_eq (by simp [State.setup, map_lock_set s.blocks g b h]) rfl rfl rfl

theorem State.keeps_modifyBlock (s : State) (g : GlobalBlock) (f : BlockRecord → BlockRecord)
    (h : ∀ b, (f b).lock = b.lock) : s.Keeps (s.modifyBlock g f) :=
  s.keeps_setBlock g _ (h _)

theorem State.keeps_mapBlocks (s : State) (f : Nat → BlockRecord → BlockRecord) (h : ∀ i b, (f i b).lock = b.lock) :
    s.Keeps (s.mapBlocks f) := by
  refine .of_eq ?_ rfl rfl rfl
  have : (mapIndexed f s.blocks).toList.map BlockRecord.lock = s.blocks.toList.map BlockRecord.lock := by
    apply List.ext_getElem (by simp)
    intro i h₁ h₂
    simp [h]
  simp [State.setup, this]

/-! ## Requests and responses -/

/-- Writing the entry of a tag changes the number of outstanding requests by that entry alone. -/
theorem State.outstandingCount_setRequest (s : State) (t : Tag) (r : Option Request) :
    (s.setRequest t r).outstandingCount + (if (s.request t).isSome then 1 else 0) =
      s.outstandingCount + (if r.isSome then 1 else 0) := by
  have hlen : t.val < s.table.toList.length := by simp
  have hl : (s.table.set t r).toList = s.table.toList.set t.val r := by simp [Vector.toList_set]
  have hpos : (s.request t).isSome = true → 0 < s.table.toList.countP Option.isSome := by
    intro h
    exact List.countP_pos_iff.mpr ⟨s.request t, by simp [State.request], h⟩
  have hget : s.table.toList[t.val] = s.request t := by simp [State.request]
  simp only [State.outstandingCount, State.setRequest_table, hl, List.countP_set hlen, hget]
  split <;> split <;> simp_all

theorem State.keeps_setRequest (s : State) (t : Tag) (r : Option Request)
    (h : ∀ r', r = some r' → ∃ q, s.request t = some q ∧ r'.order = q.order) : s.Keeps (s.setRequest t r) := by
  have some : r.isSome → (s.request t).isSome := by
    intro hr
    obtain ⟨r', hr'⟩ := Option.isSome_iff_exists.mp hr
    obtain ⟨q, hq, -⟩ := h r' hr'
    simp [hq]
  refine ⟨rfl, ?_, fun t' r' hr' => ?_, id⟩
  · have := s.outstandingCount_setRequest t r
    simp only [State.portLoad, State.setRequest_responses]
    split at this <;> split at this <;> simp_all <;> omega
  · by_cases e : t' = t
    · subst e
      exact h r' (by simpa using hr')
    · exact ⟨r', by simpa [Ne.symm e] using hr', rfl⟩

theorem State.keeps_answer (s : State) (t : Tag) (c : RespCode) (data : Option (List Byte)) :
    s.Keeps (s.answer t c data) := by
  unfold State.answer
  split
  · exact .refl s
  · next r hr =>
    refine ⟨rfl, ?_, (s.keeps_setRequest t none (by simp)).order, id⟩
    have := s.outstandingCount_setRequest t none
    simp only [hr, Option.isSome_some, if_true, Option.isSome_none] at this
    simp only [State.portLoad, State.respond_responses, State.setRequest_responses, List.length_append,
      List.length_singleton]
    have h : ((s.setRequest t none).respond ⟨t, c, data⟩).outstandingCount = (s.setRequest t none).outstandingCount :=
      rfl
    simp at this
    omega

theorem State.keeps_answerPlain (s : State) (t : Tag) (c : RespCode) : s.Keeps (s.answerPlain t c) :=
  s.keeps_answer t c none

theorem State.keeps_answerAll (s : State) (ts : List Tag) (c : RespCode) : s.Keeps (s.answerAll ts c) :=
  .foldl _ (fun s t => s.keeps_answerPlain t c) ts s

theorem State.keeps_answerRead (s : State) (t : Tag) (line : LineImage) : s.Keeps (s.answerRead t line) := by
  unfold State.answerRead
  split
  · exact s.keeps_answer ..
  · exact .refl s

/-- Rewriting the entries of the table without emptying or filling one, or moving one in the order of acceptance. -/
theorem State.keeps_mapTable (s : State) (f : Nat → Option Request → Option Request)
    (h : ∀ i r, (f i r).map Request.order = r.map Request.order) :
    s.Keeps { s with table := mapIndexed f s.table } := by
  have same : ∀ i r, (f i r).isSome = r.isSome := fun i r => by simpa using congrArg Option.isSome (h i r)
  refine ⟨rfl, ?_, fun t r' hr' => ?_, id⟩
  case refine_2 =>
    have place := h t.val (s.request t)
    have entry : f t.val (s.request t) = some r' := by simpa [State.request] using hr'
    rw [entry] at place
    simpa [eq_comm] using place
  have key : ∀ (k : Nat) (l : List (Option Request)),
      (mapFrom f k l).countP Option.isSome = l.countP Option.isSome := by
    intro k l
    induction l generalizing k with
    | nil => rfl
    | cons x xs ih => simp [mapFrom, List.countP_cons, ih, same]
  simp [State.portLoad, State.outstandingCount, mapIndexed, key]

theorem State.keeps_clearMarks (s : State) (g : GlobalBlock) : s.Keeps (s.clearMarks g) :=
  s.keeps_mapTable _ (by intro i r; cases r <;> simp; split <;> rfl)

theorem State.keeps_writeFault (s : State) (b : FaultBody) : s.Keeps (s.writeFault b) := by
  unfold State.writeFault
  split
  · next h =>
    refine ⟨rfl, Nat.le_refl _, (State.Keeps.refl s).order, fun _ => ?_⟩
    simp only [State.FaultLogLaw, List.length_append, List.length_singleton]
    simp only [Config.faultLogRoom] at h
    omega
  · exact ⟨rfl, Nat.le_refl _, (State.Keeps.refl s).order, id⟩

/-! ## The pool -/

theorem State.keeps_post (s : State) (i : BufIx) : s.Keeps (s.post i) := by
  unfold State.post
  split
  · exact (s.keeps_setBuffer _ _).trans (State.keeps_modifyDie _ _ _)
  · exact .refl s

theorem State.keeps_pressurePost (s : State) : s.Keeps s.pressurePost := by
  unfold State.pressurePost
  split
  · exact s.keeps_post _
  · exact .refl s

theorem State.keeps_postIfCaused (s : State) (i : BufIx) : s.Keeps (s.postIfCaused i) := by
  unfold State.postIfCaused
  split
  · split
    · exact s.keeps_post _
    · exact .refl s
  · exact .refl s

theorem State.keeps_merge (s : State) (i : BufIx) (t : Tag) (r : Request) : s.Keeps (s.merge i t r) := by
  unfold State.merge
  split
  · exact (s.keeps_setBuffer _ _).trans (State.keeps_answerPlain _ _ _)
  · exact (s.keeps_setBuffer _ _).trans (State.keeps_answerPlain _ _ _)
  · exact .refl s

theorem State.keeps_judge (s : State) (i : BufIx) (t : Tag) : s.Keeps (s.judge i t) := by
  unfold State.judge
  split
  · split
    · exact s.keeps_merge _ _ _
    · exact s.keeps_answerPlain _ _
  · exact .refl s

theorem State.keeps_meet (s : State) (i : BufIx) (t : Tag) : s.Keeps (s.meet i t) := by
  unfold State.meet
  split
  · split
    · exact (s.keeps_merge _ _ _).trans (State.keeps_postIfCaused _ _)
    · exact s.keeps_answerPlain _ _
  · exact .refl s

theorem State.keeps_joinWait (s : State) (t : Tag) : s.Keeps (s.joinWait t) := .of_eq rfl rfl rfl rfl

theorem State.keeps_writeJoinsWait (s : State) (t : Tag) : s.Keeps (s.writeJoinsWait t) :=
  (s.keeps_joinWait t).trans (State.keeps_pressurePost _)

theorem State.keeps_leaveWait (s : State) (t : Tag) : s.Keeps (s.leaveWait t) := .of_eq rfl rfl rfl rfl

theorem State.keeps_joinHeld (s : State) (i : BufIx) (t : Tag) : s.Keeps (s.joinHeld i t) := by
  unfold State.joinHeld
  split
  · exact s.keeps_setBuffer _ _
  · exact .refl s

theorem State.keeps_joinHold (s : State) (g : GlobalBlock) (t : Tag) : s.Keeps (s.joinHold g t) :=
  s.keeps_modifyBlock g _ fun _ => rfl

theorem State.keeps_queueArrayRead (s : State) (t : Tag) : s.Keeps (s.queueArrayRead t) := by
  unfold State.queueArrayRead
  split
  · exact s.keeps_modifyDie _ _
  · exact .refl s

theorem State.keeps_freeBuffer (s : State) (i : BufIx) : s.Keeps (s.freeBuffer i) := .of_eq rfl rfl rfl rfl

theorem State.keeps_completeFlushes (s : State) : s.Keeps s.completeFlushes := .of_eq rfl rfl rfl rfl

theorem State.keeps_openAs (s : State) (i : BufIx) (b : Nat → Buffer) : s.Keeps (s.openAs i b) :=
  .of_eq rfl rfl rfl rfl

theorem State.keeps_openWithBase (s : State) (i : BufIx) (t : Tag) (base : LineImage) (p : Option BufIx) :
    s.Keeps (s.openWithBase i t base p) := by
  unfold State.openWithBase
  split
  · exact .refl s
  · dsimp only
    split
    · exact ((s.keeps_openAs _ _).trans (State.keeps_merge _ _ _ _)).trans (State.keeps_postIfCaused _ _)
    · exact ((s.keeps_openAs _ _).trans (State.keeps_answerPlain _ _ _)).trans (State.keeps_freeBuffer _ _)

theorem State.keeps_openLoading (s : State) (i : BufIx) (t : Tag) : s.Keeps (s.openLoading i t) := by
  unfold State.openLoading
  split
  · exact .refl s
  · exact (s.keeps_openAs _ _).trans (State.keeps_modifyDie _ _ _)

theorem State.keeps_settleHeld (cause : DiscardCause) (s : State) (t : Tag) : s.Keeps (State.settleHeld cause s t) := by
  unfold State.settleHeld
  split
  · exact s.keeps_answerPlain _ _
  · split
    · exact s.keeps_answerPlain _ _
    · exact s.keeps_queueArrayRead _

theorem State.keeps_loseLine (s : State) (i : BufIx) (c : LossCause) (l : LineAddr) (b : LineBody) :
    s.Keeps (s.loseLine i c l b) :=
  (s.keeps_writeFault _).trans (State.keeps_modifyDie _ _ _)

theorem State.keeps_discard (cause : DiscardCause) (s : State) (i : BufIx) : s.Keeps (State.discard cause s i) := by
  unfold State.discard
  split
  · exact .refl s
  · exact ((s.keeps_modifyDie _ _).trans (.foldl _ (State.keeps_settleHeld cause) _ _)).trans
      (State.keeps_freeBuffer _ _)
  · exact (s.keeps_loseLine _ _ _ _).trans (State.keeps_freeBuffer _ _)
  · exact (s.keeps_loseLine _ _ _ _).trans (State.keeps_freeBuffer _ _)
  · exact (s.keeps_loseLine _ _ _ _).trans (State.keeps_freeBuffer _ _)

theorem State.keeps_discardAll (s : State) (cause : DiscardCause) (p : BufIx → Buffer → Bool) :
    s.Keeps (s.discardAll cause p) :=
  .foldl _ (State.keeps_discard cause) _ _

/-! ## Admission, reads and the hand-over -/

theorem State.keeps_take (s : State) (t : Tag) (c : Course) : s.Keeps (s.take t c) := by
  cases c <;> simp only [State.take]
  · exact s.keeps_writeJoinsWait t
  · exact s.keeps_joinHeld _ t
  · exact s.keeps_meet _ t
  · split
    · exact s.keeps_openWithBase _ _ _ _
    · exact .refl s
  · exact s.keeps_openWithBase _ _ _ _
  · exact s.keeps_openLoading _ _

theorem State.keeps_stampMode (s : State) (t : Tag) (r : Request) (m : AdmittedMode) (h : s.request t = some r) :
    s.Keeps (s.stampMode t r m) :=
  s.keeps_setRequest t _ fun _ e => ⟨r, h, by cases e; rfl⟩

theorem State.keeps_processWrite (course : State → LineAddr → Course) (s : State) (t : Tag) :
    s.Keeps (State.processWrite course s t) := by
  unfold State.processWrite
  split
  · exact .refl s
  · next r hr =>
    split
    · exact s.keeps_answerPlain _ _
    · exact s.keeps_joinHold _ _
    · exact (s.keeps_stampMode t r _ hr).trans (State.keeps_take _ _ _)

theorem State.keeps_takeRead (s : State) (t : Tag) (r : Request) (c : ReadCourse) : s.Keeps (s.takeRead t r c) := by
  cases c <;> simp only [State.takeRead]
  · exact s.keeps_joinWait t
  · exact s.keeps_joinHeld _ t
  · exact s.keeps_joinHold _ t
  · exact s.keeps_answerRead t _
  · exact s.keeps_answerPlain t _
  · exact s.keeps_queueArrayRead t

theorem State.keeps_processRead (course : State → Request → ReadCourse) (s : State) (t : Tag) :
    s.Keeps (State.processRead course s t) := by
  unfold State.processRead
  split
  · exact .refl s
  · exact s.keeps_takeRead _ _ _

theorem State.keeps_processVia (reads : State → Request → ReadCourse) (s : State) (t : Tag) :
    s.Keeps (State.processVia reads s t) := by
  unfold State.processVia
  split
  · exact s.keeps_processWrite _ t
  · exact s.keeps_processRead _ t

theorem State.keeps_process (s : State) (t : Tag) : s.Keeps (s.process t) := s.keeps_processVia _ t

theorem State.keeps_setWaitList (s : State) (l : List Tag) : s.Keeps { s with waitList := l } := .of_eq rfl rfl rfl rfl

theorem State.keeps_releaseReads (s : State) (l : LineAddr) : s.Keeps (s.releaseReads l) :=
  (s.keeps_setWaitList _).trans (.foldl _ (State.keeps_processRead _) _ _)

theorem State.keeps_pullLine (s : State) (l : LineAddr) : s.Keeps (s.pullLine l) :=
  (s.keeps_setWaitList _).trans (.foldl _ (State.keeps_processVia _) _ _)

theorem State.keeps_handTo (s : State) (t : Tag) : s.Keeps (s.handTo t) := by
  unfold State.handTo
  split
  · exact s.keeps_leaveWait t
  · dsimp only
    have h := (s.keeps_leaveWait t).trans (State.keeps_processWrite State.bufferCourse _ t)
    split
    · exact h.trans (State.keeps_pullLine _ _)
    · exact h.trans (State.keeps_releaseReads _ _)

theorem State.keeps_handOverLoop (fuel : Nat) (s : State) : s.Keeps (State.handOverLoop fuel s) := by
  induction fuel generalizing s with
  | zero => exact .refl s
  | succ n ih =>
    unfold State.handOverLoop
    split
    · exact (s.keeps_handTo _).trans (ih _)
    · exact .refl s

theorem State.keeps_afterFree (s : State) : s.Keeps s.afterFree :=
  s.keeps_completeFlushes.trans (State.keeps_handOverLoop _ _)

/-! ## The die controller -/

theorem State.keeps_sendRead (s : State) (d : DieIx) (e : ReadEntry) (rest : List ReadEntry) :
    s.Keeps (s.sendRead d e rest) :=
  (s.keeps_modifyDie _ _).trans (State.keeps_send _ _ _)

theorem State.keeps_clearClean (s : State) (g : GlobalBlock) :
    s.Keeps (s.modifyBlock g fun b => { b with clean := false }) :=
  s.keeps_modifyBlock _ _ fun _ => rfl

theorem State.keeps_startProgram (s : State) (d : DieIx) (i : BufIx) : s.Keeps (s.startProgram d i) := by
  unfold State.startProgram
  split
  · exact State.Keeps.trans (.trans (.trans (s.keeps_setBuffer _ _) (State.keeps_clearClean _ _))
      (State.keeps_modifyDie _ _ _)) (State.keeps_send _ _ _)
  · exact .refl s

theorem State.keeps_startErase (s : State) (d : DieIx) (e : EraseOp) (rest : List WorkEntry) :
    s.Keeps (s.startErase d e rest) :=
  State.Keeps.trans (.trans (s.keeps_modifyBlock _ (fun b => { b with erase := .erasing, clean := false }) fun _ => rfl)
    (State.keeps_modifyDie _ _ _)) (State.keeps_send _ _ _)

theorem State.keeps_sendHalt (s : State) (d : DieIx) (op : ArrayOp) (due : Nat) : s.Keeps (s.sendHalt d op due) :=
  (s.keeps_modifyDie _ _).trans (State.keeps_send _ _ _)

theorem State.keeps_sendContinue (s : State) (d : DieIx) : s.Keeps (s.sendContinue d) := by
  unfold State.sendContinue
  split
  · exact .refl s
  · exact (s.keeps_modifyDie _ _).trans (State.keeps_send _ _ _)

theorem State.keeps_serveWork (s : State) (d : DieIx) : s.Keeps (s.serveWork d) := by
  unfold State.serveWork
  split
  · exact .refl s
  · split
    · exact .refl s
    · exact s.keeps_startProgram _ _
  · split
    · split
      · exact s.keeps_startProgram _ _
      · exact .refl s
    · exact s.keeps_startErase _ _ _

theorem State.keeps_decide (s : State) (d : DieIx) : s.Keeps (s.decide d) := by
  unfold State.decide
  split
  · exact (s.keeps_startProgram _ _).trans (State.keeps_modifyDie _ _ _)
  · exact s.keeps_sendContinue _

theorem State.keeps_startHoldOff (s : State) (d : DieIx) : s.Keeps (s.startHoldOff d) := by
  unfold State.startHoldOff
  split
  · exact s.keeps_decide _
  · exact s.keeps_modifyDie _ _

theorem State.keeps_arbitrate (s : State) (d : DieIx) : s.Keeps (s.arbitrate d) := by
  unfold State.arbitrate
  split
  · exact s.keeps_sendRead _ _ _
  · exact s.keeps_serveWork _
  · exact s.keeps_sendRead _ _ _
  · exact s.keeps_startHoldOff _
  · exact s.keeps_sendHalt _ _ _
  · exact s.keeps_sendHalt _ _ _
  · exact .refl s

theorem State.keeps_settle (s : State) : s.Keeps s.settle := .foldl _ State.keeps_arbitrate _ _

theorem State.keeps_decideAtOnce (s : State) (d : DieIx) : s.Keeps (s.decideAtOnce d) := by
  unfold State.decideAtOnce
  split
  · exact s.keeps_decide _
  · exact .refl s

theorem State.keeps_failUnfinished (s : State) (d : DieIx) : s.Keeps (s.failUnfinished d) := by
  unfold State.failUnfinished
  exact .foldl _ (fun s op => s.keeps_modifyBlock _ (fun b => { b with health := .failed, clean := false })
    fun _ => rfl) _ _

theorem State.keeps_faultWaiting (s : State) (d : DieIx) : s.Keeps (s.faultWaiting d) := by
  unfold State.faultWaiting
  refine ((s.keeps_answerAll _ _).trans (State.keeps_mapBlocks _ _ ?_)).trans (State.keeps_setWaitList _ _)
  intro i b
  split <;> rfl

theorem State.keeps_failErase (d : DieIx) (s : State) (e : EraseOp) : s.Keeps (State.failErase d s e) :=
  State.Keeps.trans (.trans (s.keeps_modifyBlock _ (fun b => { b with erase := .none }) fun _ => rfl)
    (State.keeps_clearMarks _ _)) (State.keeps_complete _ _)

theorem State.keeps_goOffline (s : State) (d : DieIx) (report : FaultBody) : s.Keeps (s.goOffline d report) := by
  unfold State.goOffline
  dsimp only
  refine State.Keeps.trans ?_ (State.keeps_afterFree _)
  refine State.Keeps.trans ?_ (.foldl _ (State.keeps_failErase d) _ _)
  refine State.Keeps.trans ?_ (State.keeps_modifyDie _ _ _)
  refine State.Keeps.trans ?_ (State.keeps_discardAll _ _ _)
  refine State.Keeps.trans ?_ (State.keeps_modifyDie _ _ _)
  refine State.Keeps.trans ?_ (State.keeps_faultWaiting _ _)
  exact (s.keeps_writeFault _).trans (State.keeps_failUnfinished _ _)

/-! ## The host port -/

/-- Every outstanding request stands below the place that a request accepted now takes in the order of acceptance
(R138). -/
theorem State.order_lt_nextOrder {s : State} {t : Tag} {r : Request} (h : s.request t = some r) :
    r.order < s.nextOrder := by
  have key : ∀ l : List Tag, t ∈ l →
      r.order < l.foldr (fun t n => max ((s.request t).elim 0 fun r => r.order + 1) n) 0 := by
    intro l
    induction l with
    | nil => simp
    | cons t' l ih =>
      intro ht
      rcases List.mem_cons.mp ht with rfl | ht
      · simp [h]
      · exact Nat.lt_of_lt_of_le (ih ht) (Nat.le_max_right _ _)
  exact key tagIndices ((by decide : ∀ t : Tag, t ∈ tagIndices) t)

/-- A request accepted now keeps the law of the order of acceptance. -/
theorem State.OrderLaw.accepted {s : State} (l : s.OrderLaw) (t : Tag) (a : BitVec 27) (p : Payload) :
    (s.setRequest t (some (s.accepted a p))).OrderLaw := by
  intro t₁ t₂ r₁ r₂ h₁ h₂ e
  simp only [State.request_setRequest] at h₁ h₂
  split at h₁ <;> split at h₂
  · next e₁ e₂ => exact e₁.symm.trans e₂
  · cases h₁; exact absurd e.symm (Nat.ne_of_lt (State.order_lt_nextOrder h₂))
  · cases h₂; exact absurd e (Nat.ne_of_lt (State.order_lt_nextOrder h₁))
  · exact l t₁ t₂ r₁ r₂ h₁ h₂ e

theorem State.keeps_takeFresh (s : State) (t : Tag) (c : Course) : s.Keeps (s.takeFresh t c) := by
  unfold State.takeFresh
  split
  · exact (s.keeps_take _ _).trans (State.keeps_afterFree _)
  · exact (s.keeps_take _ _).trans (State.keeps_afterFree _)
  · exact s.keeps_take _ _

theorem State.keeps_writeArrives (s : State) (t : Tag) (r : Request) (h : s.request t = some r) :
    s.Keeps (s.writeArrives t r) := by
  unfold State.writeArrives
  split
  · exact s.keeps_answerPlain _ _
  · exact s.keeps_joinHold _ _
  · exact ((s.keeps_stampMode t r _ h).trans (State.keeps_takeFresh _ _ _)).trans (State.keeps_settle _)

theorem State.keeps_readArrives (s : State) (t : Tag) (r : Request) : s.Keeps (s.readArrives t r) := by
  unfold State.readArrives
  split
  · exact (s.keeps_queueArrayRead _).trans (State.keeps_arbitrate _ _)
  · exact s.keeps_takeRead _ _ _

/-- A tag whose request passes the port checks has nothing outstanding (R140). -/
theorem State.request_none_of_portCheck (s : State) (t : Tag) (a : BitVec 27) (n : Nat)
    (h : s.portCheck t a n = none) : s.request t = none := by
  unfold State.portCheck at h
  split at h
  · cases h
  · split at h
    · cases h
    · split at h
      · cases h
      · next hr => simpa using hr

end Sys2Proof.Machine
end

