-- ==== Sys2Proof/Tests/Slice0.lean ====
section
/-! SUPPORT. Small tests: ill-formed terms that WellFormed refuses, frames and addresses written out from the spec, and
for each statement with hypotheses concrete states and operands that meet them, one theorem for each clause. -/

namespace Sys2Proof.Tests

open Sys2Proof Sys2Proof.Machine

/-! ## WellFormed refuses ill-formed terms -/

/-- A write of no beat and a write of nine beats cannot stand on HREQ (R138). -/
theorem test_write_beats_refused :
    (Instr.hostWrite 0 0 []).wellFormed = false ∧
      (Instr.hostWrite 0 0 (List.replicate 9 ⟨0, Vector.replicate 8 0⟩)).wellFormed = false := by decide

/-- A read of no beat and a read of nine beats cannot stand on HREQ (R138). -/
theorem test_read_beats_refused :
    (Instr.hostRead 0 0 0).wellFormed = false ∧ (Instr.hostRead 0 0 9).wellFormed = false := by decide

/-- A frame with no complete byte is no command frame, and one that begins with 0x00 is a reply frame (R151). -/
theorem test_command_frame_refused :
    (Instr.commandFrame [] true).wellFormed = false ∧ (Instr.commandFrame [0x00, 0x01] false).wellFormed = false := by
  decide

/-- A reply frame has at least its command byte (R151). -/
theorem test_reply_frame_refused : (Instr.replyFrame 0).wellFormed = false := by decide

/-- No malformed command frame begins with 0x00 (R151, R183). -/
theorem test_malformed_frame_refused : (Instr.malformedFrame 0x00).wellFormed = false := by decide

/-! ## Frames, addresses and records written out from the spec -/

/-- Section 11.7: ERASE of global block 265 is the frame 0x10 0x01 0x09. -/
theorem test_erase_frame : parseFrame 0x10 [0x01, 0x09] false = .erase 265 := by decide

/-- Section 11.1: LOCK of blocks 16 to 31 to OPEN. -/
theorem test_lock_frame : parseFrame 0x06 [0x00, 0x10, 0x00, 0x1F, 0x01] false = .lock 16 31 0x01 := by decide

/-- R183: a frame of the wrong length, and one with an incomplete last byte, are malformed. -/
theorem test_malformed_frames :
    parseFrame 0x10 [0x01] false = .malformed 0x10 ∧ parseFrame 0x01 [] true = .malformed 0x01 := by decide

/-- 00_scope.md section 3: address 0x0213_4A48 is die 1, block 9, line 1321, byte 8, global block 265. -/
theorem test_address_split :
    lineOfAddress 0x2134A48 = ⟨1, 9, 1321⟩ ∧ positionOfAddress 0x2134A48 = 8 ∧
      (lineOfAddress 0x2134A48).global = 265 := by decide

/-- Section 11.4: LINE_LOST with sequence 5, cause PROGRAM_FAIL, die 0, block 7, line 3, 24 bytes. -/
theorem test_fault_record :
    (FaultRecord.mk 5 (.lineLost .programFail ⟨0, 7, 3⟩ 24)).encode =
      [0x00, 0x05, 0x02, 0x3D, 0x01, 0x00, 0x00, 0x07, 0x00, 0x03, 0x00, 0x18, 0x00, 0x00, 0x00] := by decide

/-- Section 11.6: a read of eight beats under tag 13 is kind 0 with a beats field of 7, and a write of one beat kind 1
with a beats field of 0. -/
theorem test_host_request_signals :
    hostRequestSignals 13 131200 (.read 8) = ⟨0, 13, 131200, 7, []⟩ ∧
      hostRequestSignals 0 0 (.write [⟨0xFF, Vector.replicate 8 0x0F⟩]) =
        ⟨1, 0, 0, 0, [⟨0xFF, Vector.replicate 8 0x0F⟩]⟩ := by decide

/-- Section 11.6: FAULT(DUPLICATE_TAG) is code 2 with detail 5, and REFUSED(CONFLICT) code 1 with detail 4. -/
theorem test_host_response_signals :
    (Response.mk 13 (.fault .duplicateTag) none).signals = ⟨13, 2, 5, []⟩ ∧
      (Response.mk 2 (.refused .conflict) none).signals = ⟨2, 1, 4, []⟩ := by decide

/-! ## States for the witnesses -/

/-- A running part with four READY dies, every block OPEN and HEALTHY in one COMBINE region. -/
def base : State :=
  { State.reset with
    mode := .running
    regions := State.reset.regions.set 0 ⟨true, 0, 1023, .combine, true, .window⟩
    blocks := Vector.replicate 1024 ⟨.opened, .healthy, .none, false, []⟩
    dies := Vector.replicate 4 (Die.empty .ready)
    out := Outputs.none }

/-- The line of address 131 200: die 0, block 1, line 2. -/
def lineA : LineAddr := ⟨0, 1, 2⟩

/-- One beat with every byte enabled, each 0x0F. -/
def beatA : Beat := ⟨0xFF, Vector.replicate 8 0x0F⟩

/-- A base of 64 bytes of 0xFF with nothing written. -/
def freshFF : LineBody := .fresh erasedLine

/-- A base of 64 bytes of 0x00 with nothing written. -/
def fresh00 : LineBody := .fresh (Vector.replicate 64 0)

/-- A buffer body with one written byte. -/
def writtenA : LineBody := ⟨erasedLine, erasedLine, (Vector.replicate 64 false).set 0 true⟩

/-- A read of one beat at byte 0 of line A, third in the order of acceptance. -/
def readA : Request := ⟨.read 1, lineA, 0, some 100, none, false, 3⟩

/-- A write of one beat at byte 0 of line A, admitted under COMBINE, first in the order of acceptance. -/
def writeA : Request := ⟨.write [beatA], lineA, 0, some 100, some .combine, false, 1⟩

/-- `base` with the command in execution. -/
def during (c : MgmtCommand) : State := { base with executing := some ⟨c, 5⟩ }

/-- `base` with die 0 in the state given. -/
def dieIn (st : DieState) : State := base.setDie 0 (Die.empty st)

/-- `base` with the block of line A clean. -/
def cleanA : State := base.modifyBlock lineA.global fun b => { b with clean := true }

/-- Buffers that hold no line of die 0, so that none is FREE. -/
def fullPool : State :=
  { base with buffers := Vector.replicate 12 (.programming ⟨3, 0, 0⟩ 0 writtenA 0) }

/-- A program of buffer 0 running on die 0. -/
def progA : ProgramOp := ⟨1, 2, 0⟩

/-- An erase of block 1 of die 0. -/
def eraseA : EraseOp := ⟨1, 7⟩

/-- A write of beat A to line A as the port takes it. -/
def newA (s : State) : Request := s.newWrite 131200 [beatA]

/-- A write of beat A to line A under tag 0 is accepted and admitted under COMBINE. -/
abbrev takesWrite (s : State) : Prop :=
  s.accepts 0 131200 [beatA].length ∧ (newA s).line = lineA ∧ s.tagFree 0 lineA ∧ s.admits (newA s) .combine

/-- A read of the whole of line A under tag 15 is accepted. -/
abbrev takesRead (s : State) : Prop :=
  s.accepts 15 131200 8 ∧ (s.newRead 131200 8).line = lineA ∧ s.tagFree 15 lineA

/-- A coalesce window of 0: every merge posts its buffer. -/
def atOnce (s : State) : State := { s with settings := { s.settings with coalesceWindow := 0 } }

/-- A fault log with its 16 records. -/
def fullLog (s : State) : State := { s with faultLog := List.replicate 16 ⟨0, .eraseFail 0 0⟩ }

/-- Die 0 busy with an erase of block 9 whose guard runs. -/
def busyDie : State := dieIn (.erasing ⟨9, 0⟩ 5000 (some 300))

/-- The program of buffer 0 runs on die 0, no buffer is FREE, a write of line A waits under tag 0 and a read of line A
behind it under tag 1. -/
def waitingA : State :=
  { ((((fullPool.setBuffer 0 (.programming ⟨0, 5, 0⟩ 0 writtenA 0)).setDie 0 (Die.empty (.programming ⟨5, 0, 0⟩ 3000
      (some 100)))).setRequest 0 (some writeA)).setRequest 1 (some readA)) with waitList := [0, 1] }

/-- An erase of the block of line A runs on die 0, and these requests stand in the block's hold list. -/
def erasedWith (held : List (Tag × Request)) : State :=
  (held.foldl (fun s q => s.setRequest q.1 (some q.2)) (dieIn (.erasing eraseA 5000 none))).setBlock 1
    ⟨.opened, .healthy, .erasing, false, held.map Prod.fst⟩

/-! ## Witnesses: the hypotheses of the statements are met -/

-- One theorem at a time: elaborated side by side, the kernel evaluations below want a thread each.
set_option Elab.async false
-- The law of the line buffers is one long proposition to decide.
set_option synthInstance.maxSize 4000

theorem witness_StepRunsFrontCommand :
    ({ base with pending := [.status] } : State).pending = [Instr.status] := rfl

theorem witness_StepTicksWhenIdle :
    base.pending = [] := rfl

theorem witness_LineResetKeepsFaultLog :
    ({ base with rstnLow := true } : State).rstnLow = true := rfl

theorem witness_ProtnAssertionShutsPinnedBlocks :
    base.rstnLow = false ∧ base.protn = false := by decide +kernel

theorem witness_ProtnReleaseKeepsLocks :
    base.rstnLow = false ∧ ({ base with rstnLow := true } : State).rstnLow = true := by decide +kernel

theorem witness_LockSetsRange :
    (during (.lock 1022 1023 0x01)).completing (.lock 1022 1023 0x01) ∧ (during (.lock 1022 1023 0x01)).mode = .running ∧
    (1022 : BitVec 16).toNat ≤ (1023 : BitVec 16).toNat ∧
    (1023 : BitVec 16).toNat < (during (.lock 1022 1023 0x01)).fittedDies * 256 ∧
    (during (.lock 1022 1023 0x01)).protn = false := by decide +kernel

theorem witness_CeilingMovesOneWay_asserted :
    let s := { during (.ceiling 3 256) with protn := true }
    s.completing (.ceiling 3 256) ∧ s.mode = .running ∧ (3 : Byte).toNat = (3 : DieIx).val ∧ 3 < s.fittedDies ∧
      (256 : BitVec 16).toNat < 257 ∧ s.protn = true ∧ (s.ceilings[(3 : DieIx)]).val ≤ (256 : BitVec 16).toNat := by decide +kernel

theorem witness_CeilingMovesOneWay_released :
    let s := during (.ceiling 3 0)
    s.completing (.ceiling 3 0) ∧ s.mode = .running ∧ 3 < s.fittedDies ∧
      s.protn = false ∧ (0 : BitVec 16).toNat ≤ (s.ceilings[(3 : DieIx)]).val := by decide +kernel

theorem witness_ProtectionCommandsRefused_lockRange :
    let s := during (.lock 1 1024 0x00)
    s.completing (.lock 1 1024 0x00) ∧ s.mode = .running ∧ s.fittedDies * 256 ≤ (1024 : BitVec 16).toNat := by decide +kernel

theorem witness_ProtectionCommandsRefused_pinned :
    let s := { during (.lock 0 1 0x01) with protn := true, ceilings := base.ceilings.set 0 1 }
    s.completing (.lock 0 1 0x01) ∧ s.mode = .running ∧ (1 : BitVec 16).toNat < s.fittedDies * 256 ∧ s.protn = true ∧
      s.pinned 0 = true ∧ s.pinned 1 = false := by decide +kernel

theorem witness_ProtectionCommandsRefused_ceilingRange :
    let s := during (.ceiling 4 257)
    s.completing (.ceiling 4 257) ∧ s.mode = .running ∧ s.fittedDies ≤ (4 : Byte).toNat ∧ 256 < (257 : BitVec 16).toNat := by decide +kernel

theorem witness_ProtectionCommandsRefused_ceiling :
    let s := during (.ceiling 0 256)
    s.completing (.ceiling 0 256) ∧ s.mode = .running ∧ s.protn = false ∧
      (s.ceilings[(0 : DieIx)]).val < (256 : BitVec 16).toNat ∧ (256 : BitVec 16).toNat < 257 := by decide +kernel

theorem witness_PortAcceptsOrAnswers_low :
    State.reset.hrdy = false := by decide +kernel

theorem witness_PortAcceptsOrAnswers_address :
    let s := { base with dcount := 0 }
    s.hrdy = true ∧ s.fittedDies * 33554432 ≤ (33554432 : BitVec 27).toNat := by decide +kernel

theorem witness_PortAcceptsOrAnswers_align :
    base.hrdy = true ∧ 64 < (56 : BitVec 27).toNat % 64 + 8 * 2 := by decide +kernel

theorem witness_PortAcceptsOrAnswers_duplicate :
    (base.setRequest 3 (some readA)).hrdy = true ∧ (base.setRequest 3 (some readA)).request 3 ≠ none := by decide +kernel

theorem witness_WriteAnsweredByAdmission :
    let s := base.setBlock lineA.global ⟨.shut, .healthy, .none, false, []⟩
    s.accepts 0 131200 [beatA].length ∧ (s.die 0).isOffline = false ∧ (s.newWrite 131200 [beatA]).line = lineA ∧
      (s.regionOf lineA.global).map RegionEntry.mode = some .combine ∧ (s.block lineA.global).lock = .shut := by decide +kernel

theorem witness_WriteAnsweredByAdmission_empty :
    base.accepts 0 131200 [(⟨0, Vector.replicate 8 0⟩ : Beat)].length ∧
    (base.newWrite 131200 [⟨0, Vector.replicate 8 0⟩]).coversNothing = true := by decide +kernel

theorem witness_WriteHeldByErase :
    let s := base.setBlock lineA.global ⟨.opened, .healthy, .erasing, false, []⟩
    s.accepts 15 131200 [beatA].length ∧ (s.newWrite 131200 [beatA]).line = lineA ∧ (s.die 0).isOffline = false ∧
      (s.block lineA.global).health = .healthy ∧ (s.block lineA.global).erase ≠ .none := by decide +kernel

theorem witness_WriteMeetsOpenBuffer_filling :
    let s := base.setBuffer 11 (.filling lineA 0 freshFF none (some 9))
    takesWrite s ∧ s.atRest ∧ s.writeWaits lineA = false ∧ s.openBuffer lineA = some 11 ∧
      (newA s).fits .combine freshFF = true ∧ ¬ s.postsNow 11 lineA (freshFF.overlay (newA s)) := by decide +kernel

theorem witness_WriteMeetsOpenBuffer_postedBehind :
    let s := atOnce (busyDie.setBuffer 11 (.filling lineA 0 freshFF none none))
    let x := s.die 0
    takesWrite s ∧ s.atRest ∧ s.writeWaits lineA = false ∧ s.openBuffer lineA = some 11 ∧
      (newA s).fits .combine freshFF = true ∧ s.postsNow 11 lineA (freshFF.overlay (newA s)) ∧
      ({ x with workQueue := x.workQueue ++ [WorkEntry.program 11] } : Die).atRest = true := by decide +kernel

theorem witness_WriteMeetsOpenBuffer_started :
    let s := { base with flushes := [⟨3, .all, [11]⟩] }.setBuffer 11 (.filling lineA 0 freshFF none (some 9))
    takesWrite s ∧ s.atRest ∧ s.writeWaits lineA = false ∧ s.openBuffer lineA = some 11 ∧
      (newA s).fits .combine freshFF = true ∧ s.postsNow 11 lineA (freshFF.overlay (newA s)) ∧
      (s.die 0).state = .ready ∧ s.settings.guardInterval ≠ 0 := by decide +kernel

theorem witness_WriteMeetsOpenBuffer_posted :
    let s := (base.setBuffer 0 (.posted lineA 0 freshFF none)).setDie 0
      ⟨.erasing ⟨9, 0⟩ 50 (some 20), [], [.program 0], [], 0⟩
    takesWrite s ∧ s.atRest ∧ s.writeWaits lineA = false ∧ s.openBuffer lineA = some 0 ∧
      (newA s).fits .combine freshFF = true := by decide +kernel

theorem witness_WriteMeetsOpenBuffer_refused :
    let s := base.setBuffer 11 (.filling lineA 0 fresh00 none (some 9))
    takesWrite s ∧ s.atRest ∧ s.writeWaits lineA = false ∧ s.openBuffer lineA = some 11 ∧
      (newA s).fits .combine fresh00 = false := by decide +kernel

theorem witness_WriteOpensOnKnownBase_clean :
    let s := cleanA
    takesWrite s ∧ s.atRest ∧ s.noWriteWaits ∧ s.flushesOpen ∧ s.openBuffer lineA = none ∧
      s.programmingBuffer lineA = none ∧ (s.block lineA.global).clean = true ∧ s.lowestFree = some 0 ∧
      (newA s).fits .combine freshFF = true ∧ ¬ s.postsNow 0 lineA (freshFF.overlay (newA s)) := by decide +kernel

theorem witness_WriteOpensOnKnownBase_started :
    let s := { cleanA with regions := cleanA.regions.set 0 ⟨true, 0, 1023, .combine, true, .atOnce⟩ }
    takesWrite s ∧ s.atRest ∧ s.noWriteWaits ∧ s.flushesOpen ∧ s.openBuffer lineA = none ∧
      s.programmingBuffer lineA = none ∧ (s.block lineA.global).clean = true ∧ s.lowestFree = some 0 ∧
      (newA s).fits .combine freshFF = true ∧ s.postsNow 0 lineA (freshFF.overlay (newA s)) ∧
      (s.die 0).state = .ready ∧ s.settings.guardInterval ≠ 0 := by decide +kernel

/-- The program of buffer 0, which holds line A, runs on die 0. -/
def programmingA : State := (dieIn (.programming progA 3000 (some 100))).setBuffer 0 (.programming lineA 0 writtenA 0)

theorem witness_WriteOpensOnKnownBase_successor :
    let s := programmingA
    takesWrite s ∧ s.atRest ∧ s.noWriteWaits ∧ s.flushesOpen ∧ s.openBuffer lineA = none ∧
      s.programmingBuffer lineA = some 0 ∧ ((s.buffer 0).body?).map LineBody.image = some erasedLine ∧
      s.lowestFree = some 1 ∧ (newA s).fits .combine freshFF = true ∧
      ¬ s.postsNow 1 lineA (freshFF.overlay (newA s)) := by decide +kernel

theorem witness_WriteOpensOnKnownBase_postedBehind :
    let s := atOnce programmingA
    let x := s.die 0
    takesWrite s ∧ s.atRest ∧ s.noWriteWaits ∧ s.flushesOpen ∧ s.openBuffer lineA = none ∧
      s.programmingBuffer lineA = some 0 ∧ ((s.buffer 0).body?).map LineBody.image = some erasedLine ∧
      s.lowestFree = some 1 ∧ (newA s).fits .combine freshFF = true ∧
      s.postsNow 1 lineA (freshFF.overlay (newA s)) ∧
      ({ x with workQueue := x.workQueue ++ [WorkEntry.program 1] } : Die).atRest = true := by decide +kernel

theorem witness_WriteOpensLoadingBuffer :
    let s := base
    takesWrite s ∧ s.writeWaits lineA = false ∧ s.openBuffer lineA = none ∧ s.programmingBuffer lineA = none ∧
      s.lowestFree = some 0 ∧ (s.block lineA.global).clean = false ∧ s.othersAtRest lineA.die ∧
      (s.die lineA.die).state = .ready ∧ (s.die lineA.die).readQueue = [] := by decide +kernel

theorem witness_WriteWaitsForBuffer_held :
    let s := (base.setBuffer 2 (.loading lineA 0 [5])).setDie 0 (Die.empty (.reading (.baseLoad 1 2 2) 8))
    takesWrite s ∧ s.atRest ∧ s.writeWaits lineA = false ∧ s.openBuffer lineA = some 2 := by decide +kernel

theorem witness_WriteWaitsForBuffer_full :
    let s := fullPool
    takesWrite s ∧ s.atRest ∧ s.openBuffer lineA = none ∧ s.lowestFree = none ∧
      ∀ i, (s.buffer i).isFilling = false := by decide +kernel

theorem witness_WriteWaitsForBuffer_behindWrite :
    let s := { fullPool.setRequest 3 (some writeA) with waitList := [3] }
    takesWrite s ∧ s.atRest ∧ s.writeWaits lineA = true ∧ ∀ i, (s.buffer i).isFilling = false := by decide +kernel

theorem witness_WriteWaitsForBuffer_pressureBehind :
    let s := (({ fullPool with dies := busyDie.dies }).setBuffer 3 (.filling ⟨0, 5, 0⟩ 4 writtenA none (some 9))).setBuffer 0
      (.filling ⟨1, 0, 0⟩ 6 writtenA none none)
    let x := s.die 0
    takesWrite s ∧ s.atRest ∧ s.openBuffer lineA = none ∧ s.lowestFree = none ∧
      (∀ j, j ≠ (3 : BufIx) → (s.buffer j).isFilling = true → (s.buffer j).openNumber? = some 6 ∧ 4 < 6) ∧
      (s.block (LineAddr.mk 0 5 0).global).erase ≠ .pending ∧
      ({ x with workQueue := x.workQueue ++ [WorkEntry.program 3] } : Die).atRest = true := by decide +kernel

theorem witness_WriteWaitsForBuffer_pressureStarts :
    let s := fullPool.setBuffer 3 (.filling ⟨0, 5, 0⟩ 4 writtenA none (some 9))
    takesWrite s ∧ s.atRest ∧ s.openBuffer lineA = none ∧ s.lowestFree = none ∧
      (∀ j, j ≠ (3 : BufIx) → (s.buffer j).isFilling = false) ∧
      (s.block (LineAddr.mk 0 5 0).global).erase ≠ .pending ∧ (s.die 0).state = .ready ∧
      s.settings.guardInterval ≠ 0 := by decide +kernel

theorem witness_PressurePostsOldest :
    let s := (base.setBuffer 3 (.filling lineA 4 writtenA none none)).setBuffer 0
      (.filling ⟨1, 0, 0⟩ 6 writtenA none none)
    ∀ j, j ≠ (3 : BufIx) → (s.buffer j).isFilling = true → (s.buffer j).openNumber? = some 6 ∧ 4 < 6 := by decide +kernel

theorem witness_PressurePostsOldest_none :
    ∀ i, (base.buffer i).isFilling = false := by decide +kernel

theorem witness_WriteCoversEnabledBytes :
    writeA.payload = .write [beatA] ∧ [beatA][0]? = some beatA := by decide +kernel

theorem witness_ReadAnsweredAtOnce_successor :
    let s := (base.setBuffer 7 (.programming lineA 0 writtenA 0)).setBuffer 4 (.posted lineA 1 freshFF (some 7))
    s.PoolLaw ∧ takesRead s ∧ s.writeWaits lineA = false ∧ s.loadingBuffer lineA = none ∧
      (s.block lineA.global).erase = .none ∧ s.buffer 4 = .posted lineA 1 freshFF (some 7) := by
  unfold State.PoolLaw; decide +kernel

theorem witness_ReadAnsweredAtOnce_programming :
    let s := base.setBuffer 7 (.programming lineA 0 writtenA 0)
    s.PoolLaw ∧ takesRead s ∧ s.writeWaits lineA = false ∧ s.loadingBuffer lineA = none ∧
      (s.block lineA.global).erase = .none ∧ s.buffer 7 = .programming lineA 0 writtenA 0 ∧
      ∀ j, j ≠ 7 → (s.buffer j).line? ≠ some lineA := by unfold State.PoolLaw; decide +kernel

theorem witness_ReadAnsweredAtOnce_clean :
    let s := cleanA
    s.PoolLaw ∧ takesRead s ∧ s.writeWaits lineA = false ∧ s.loadingBuffer lineA = none ∧
      (s.block lineA.global).erase = .none ∧ (∀ j, (s.buffer j).line? ≠ some lineA) ∧
      (s.block lineA.global).clean = true := by unfold State.PoolLaw; decide +kernel

theorem witness_ReadAnsweredAtOnce_offline :
    let s := dieIn (.offline none)
    s.PoolLaw ∧ takesRead s ∧ s.writeWaits lineA = false ∧ s.loadingBuffer lineA = none ∧
      (s.block lineA.global).erase = .none ∧ (∀ j, (s.buffer j).line? ≠ some lineA) ∧
      (s.block lineA.global).clean = false ∧ (s.die lineA.die).isOffline = true := by
  unfold State.PoolLaw; decide +kernel

theorem witness_ReadWaits_wait :
    let s := { base.setRequest 3 (some writeA) with waitList := [3] }
    takesRead s ∧ s.writeWaits lineA = true := by decide +kernel

theorem witness_ReadWaits_held :
    let s := base.setBuffer 2 (.loading lineA 0 [5])
    takesRead s ∧ s.writeWaits lineA = false ∧ s.writeHeldInBlock lineA = false ∧ s.openBuffer lineA = some 2 := by
  decide +kernel

theorem witness_ReadWaits_hold :
    let s := base.setBlock lineA.global ⟨.opened, .healthy, .pending, false, []⟩
    takesRead s ∧ s.writeWaits lineA = false ∧ s.loadingBuffer lineA = none ∧
      (s.block lineA.global).erase ≠ .none := by decide +kernel

theorem witness_ReadWaits_holdBehindWrite :
    let s := ((base.setBlock lineA.global ⟨.opened, .healthy, .pending, false, [3]⟩).setRequest 3
      (some writeA)).setBuffer 2 (.loading lineA 0 [5])
    takesRead s ∧ s.writeWaits lineA = false ∧ s.writeHeldInBlock lineA = true ∧
      (s.block lineA.global).erase ≠ .none := by decide +kernel

theorem witness_ArrayReadIsSentHaltsOrWaits_ready :
    let s := base
    takesRead s ∧ s.writeWaits lineA = false ∧ s.loadingBuffer lineA = none ∧
      (s.block lineA.global).erase = .none ∧ s.newestImage lineA = none ∧ (s.block lineA.global).clean = false ∧
      (s.die lineA.die).state = .ready ∧ (s.die lineA.die).readQueue = [] := by decide +kernel

theorem witness_ArrayReadIsSentHaltsOrWaits_halts :
    let s := dieIn (.erasing ⟨9, 0⟩ 50 none)
    takesRead s ∧ s.writeWaits lineA = false ∧ s.loadingBuffer lineA = none ∧
      (s.block lineA.global).erase = .none ∧ s.newestImage lineA = none ∧ (s.block lineA.global).clean = false ∧
      (s.die lineA.die).state = (ArrayOp.erase ⟨9, 0⟩).runningState 50 none := by decide +kernel

theorem witness_ArrayReadIsSentHaltsOrWaits_waits :
    let s := dieIn (.erasing ⟨9, 0⟩ 50 (some 20))
    takesRead s ∧ s.writeWaits lineA = false ∧ s.loadingBuffer lineA = none ∧
      (s.block lineA.global).erase = .none ∧ s.newestImage lineA = none ∧ (s.block lineA.global).clean = false ∧
      (s.die lineA.die).state = (ArrayOp.erase ⟨9, 0⟩).runningState 50 (some 20) := by decide +kernel

theorem witness_HeadResponseIsDelivered :
    (base.respond ⟨0, .ok, none⟩).responses = [⟨0, .ok, none⟩] := rfl

theorem witness_HoldTimerAnswersTimeout :
    let s := (base.setRequest 0 (some readA)).setDie 0 (Die.empty (.reading (.hostRead 1 2 (some 0)) 8))
    s.request 0 = some readA ∧ readA.holdDue = some 100 ∧ readA.payload.isWrite = false ∧ s.atRest := by decide +kernel

theorem witness_HoldTimerAnswersTimeout_waitingWrite :
    let s := { fullPool.setRequest 0 (some writeA) with waitList := [0] }
    s.request 0 = some writeA ∧ writeA.holdDue = some 100 ∧ s.atRest ∧
      ∀ t' ∈ s.waitList, t' ≠ 0 → s.isForLine writeA.line t' = false := by decide +kernel

theorem witness_HoldTimerAnswersTimeout_released :
    let s := { ((programmingA.setRequest 0 (some writeA)).setRequest 1 (some readA)) with waitList := [0, 1] }
    let x := s.die lineA.die
    s.waitList = [0, 1] ∧ s.request 0 = some writeA ∧ writeA.payload.isWrite = true ∧ writeA.holdDue = some 100 ∧
      s.request 1 = some readA ∧ readA.payload.isWrite = false ∧ readA.line = writeA.line ∧ s.atRest ∧
      (s.block lineA.global).erase = .none ∧ (∀ i, 0 ∉ (s.buffer i).held) ∧ 0 ∉ (s.block lineA.global).holdList ∧
      0 ∉ x.hostReads ∧ s.openBuffer lineA = none ∧ s.programmingBuffer lineA = some 0 ∧
      s.buffer 0 = .programming lineA 0 writtenA 0 := by decide +kernel

theorem witness_HoldTimerAnswersTimeout_releasedToArray :
    let s := { ((fullPool.setRequest 0 (some writeA)).setRequest 1 (some readA)) with waitList := [0, 1] }
    let x := s.die lineA.die
    s.waitList = [0, 1] ∧ s.request 0 = some writeA ∧ s.request 1 = some readA ∧ s.atRest ∧
      (s.block lineA.global).erase = .none ∧ (∀ i, 0 ∉ (s.buffer i).held) ∧ 0 ∉ (s.block lineA.global).holdList ∧
      0 ∉ x.hostReads ∧ s.openBuffer lineA = none ∧ s.programmingBuffer lineA = none ∧
      (s.block lineA.global).clean = false ∧ x.state = .ready := by decide +kernel

theorem witness_CoalesceTimerPosts :
    let s := base.setBuffer 0 (.filling lineA 0 writtenA none (some 256))
    s.buffer 0 = .filling lineA 0 writtenA none (some 256) ∧ (s.block lineA.global).erase ≠ .pending ∧
      s.othersAtRest lineA.die ∧ (s.die lineA.die).state = .ready ∧ (s.die lineA.die).readQueue = [] ∧
      (s.die lineA.die).workQueue = [] ∧ s.settings.guardInterval ≠ 0 := by decide +kernel

theorem witness_CoalesceTimerPosts_busy :
    let s := busyDie.setBuffer 0 (.filling lineA 0 writtenA none (some 256))
    let x := s.die lineA.die
    s.buffer 0 = .filling lineA 0 writtenA none (some 256) ∧ (s.block lineA.global).erase ≠ .pending ∧
      s.othersAtRest lineA.die ∧
      ({ x with workQueue := x.workQueue ++ [WorkEntry.program 0] } : Die).atRest = true := by decide +kernel

theorem witness_CoalesceTimerPosts_pending :
    let s := (((busyDie.setBuffer 0 (.filling lineA 0 writtenA none (some 256))).setBlock lineA.global
      ⟨.opened, .healthy, .pending, false, []⟩).modifyDie 0 fun x => { x with workQueue := [.program 4, .erase 1 7] })
    let x := s.die lineA.die
    s.buffer 0 = .filling lineA 0 writtenA none (some 256) ∧ (s.block lineA.global).erase = .pending ∧
      s.othersAtRest lineA.die ∧ x.workQueue = [.program 4] ++ .erase lineA.block 7 :: [] ∧ x.atRest = true := by
  decide +kernel

theorem witness_LineDataAnswersHostRead :
    let s := (base.setRequest 0 (some readA)).setDie 0 (Die.empty (.reading (.hostRead 1 2 (some 0)) 8))
    (s.die 0).state = .reading (.hostRead 1 2 (some 0)) 8 ∧ s.othersAtRest 0 ∧ s.request 0 = some readA ∧
      (s.die 0).context = [] ∧ (s.die 0).readQueue = [] ∧ (s.die 0).workQueue = [] := by decide +kernel

theorem witness_LineDataAnswersHostRead_next :
    let s := base.setDie 0 ⟨.reading (.hostRead 1 2 none) 8, [.hostRead 1 3 (some 1)], [], [], 0⟩
    (s.die 0).state = .reading (.hostRead 1 2 none) 8 ∧ s.othersAtRest 0 ∧
      (s.die 0).readQueue = [.hostRead 1 3 (some 1)] := by decide +kernel

theorem witness_LineDataAnswersHostRead_halted :
    let s := base.setDie 0 ⟨.reading (.hostRead 1 2 none) 8, [], [], [⟨.erase eraseA, 10⟩], 0⟩
    (s.die 0).state = .reading (.hostRead 1 2 none) 8 ∧ s.othersAtRest 0 ∧ (s.die 0).readQueue = [] ∧
      (s.die 0).context ≠ [] ∧ s.settings.holdOff ≠ 0 := by decide +kernel

/-- The base load of line A into buffer 2 is outstanding on die 0, with the write of line A held under tag 0 and the
read under tag 1. -/
def loadingA : State :=
  (((dieIn (.reading (.baseLoad 1 2 2) 8)).setBuffer 2 (.loading lineA 0 [0, 1])).setRequest 0 (some writeA)).setRequest 1
    (some readA)

/-- What the statement about a base load asks of its state. -/
abbrev baseLoads (s : State) : Prop :=
  (s.die 0).state = .reading (.baseLoad 1 2 2) 8 ∧ s.othersAtRest 0 ∧ (s.die 0).context = [] ∧
    (s.die 0).readQueue = [] ∧ (s.die 0).workQueue = [] ∧ s.buffer 2 = .loading lineA 0 [0, 1] ∧
    s.request 0 = some writeA ∧ writeA.mode = some .combine ∧ s.request 1 = some readA

/-- What the held list of line A comes to on a base of one byte value. -/
def metA (base : Byte) : LineBody :=
  (meetInOrder (fun r => r.mode.getD .combine) (.fresh (Vector.replicate 64 base)) [(0, writeA), (1, readA)]).1

theorem witness_LineDataLoadsBase :
    baseLoads loadingA ∧ (metA 0xFF).written[0] = true ∧ ¬ loadingA.postsNow 2 lineA (metA 0xFF) := by decide +kernel

theorem witness_LineDataLoadsBase_started :
    let s := atOnce loadingA
    baseLoads s ∧ (metA 0xFF).written[0] = true ∧ s.postsNow 2 lineA (metA 0xFF) ∧ lineA.die = 0 ∧
      s.settings.guardInterval ≠ 0 := by decide +kernel

theorem witness_LineDataLoadsBase_refused :
    baseLoads loadingA ∧ (∀ p : Fin 64, (metA 0x00).written[p] = false) ∧ loadingA.noWriteWaits := by decide +kernel

theorem witness_ProgramPassFreesBuffer :
    let s := (dieIn (.programming progA 3000 (some 100))).setBuffer 0 (.programming lineA 0 writtenA 0)
    (s.die 0).runningProgram = some progA ∧ s.othersAtRest 0 ∧ s.noWriteWaits ∧ (s.die 0).readQueue = [] ∧
      (s.die 0).workQueue = [] ∧ (s.die 0).context = [] := by decide +kernel

theorem witness_ProgramPassFreesBuffer_interleaved :
    let s := (base.setDie 0 ⟨.programming progA 3000 (some 100), [], [], [⟨.erase ⟨9, 0⟩, 10⟩], 1⟩).setBuffer 0
      (.programming lineA 0 writtenA 0)
    (s.die 0).runningProgram = some progA ∧ s.othersAtRest 0 ∧ s.noWriteWaits ∧ (s.die 0).readQueue = [] ∧
      (s.die 0).workQueue = [] ∧ (s.die 0).context = [⟨.erase ⟨9, 0⟩, 10⟩] ∧ s.settings.guardInterval ≠ 0 := by decide +kernel

/-- What the statement about the hand-over asks of its state. -/
abbrev handsOver (s : State) (d : DieIx) (p : ProgramOp) (rest : List Tag) : Prop :=
  (s.die d).runningProgram = some p ∧ s.othersAtRest d ∧ (s.die d).context = [] ∧ (s.die d).readQueue = [] ∧
    (s.die d).workQueue = [] ∧ s.flushes = [] ∧ (∀ j, (s.buffer j).isFree = false) ∧ s.waitList = 0 :: rest ∧
    0 ∉ rest ∧ (s.block lineA.global).health = .healthy ∧
    (s.regionOf lineA.global).map RegionEntry.mode = some .combine ∧ (s.die lineA.die).isOffline = false ∧
    ∀ j, j ≠ p.buffer → (s.buffer j).line? ≠ some lineA

theorem witness_ProgramPassFreesBuffer_opensLoading :
    let s := { waitingA.setRequest 2 (some writeA) with waitList := [0, 1, 2] }
    handsOver s 0 ⟨5, 0, 0⟩ [1, 2] ∧ s.request 0 = some writeA ∧ writeA.coversNothing = false ∧
      (s.block lineA.global).erase = .none ∧ (s.block lineA.global).lock = .opened ∧
      (s.block lineA.global).clean = false ∧ lineA.die = 0 ∧ s.request 1 = some readA ∧
      s.writeHeldAhead readA = false := by decide +kernel

theorem witness_ProgramPassFreesBuffer_opensClean :
    let s := waitingA.modifyBlock lineA.global fun b => { b with clean := true }
    handsOver s 0 ⟨5, 0, 0⟩ [1] ∧ s.request 0 = some writeA ∧ writeA.coversNothing = false ∧
      (s.block lineA.global).erase = .none ∧ (s.block lineA.global).lock = .opened ∧
      (s.block lineA.global).clean = true ∧ s.request 1 = some readA ∧ s.writeHeldAhead readA = false ∧
      ¬ s.postsNow 0 lineA (freshFF.overlay writeA) := by decide +kernel

/-- A marked write and an unmarked read of line A wait while the clean block of line A is ERASE_PENDING behind another
erase of its die, with a write of line A, accepted at this place in the order, in the block's hold list; a program of
die 1 runs. -/
def pendingA (place : Nat) : State :=
  let marked := (waitingA.setRequest 0 (some { writeA with mark := true })).setRequest 9
    (some { writeA with order := place })
  let pending := marked.setBlock lineA.global ⟨.opened, .healthy, .pending, true, [9]⟩
  (pending.setDie 0 ⟨.erasing ⟨9, 3⟩ 5000 (some 300), [], [.program 4, .erase 1 7], [], 0⟩).setDie 1
    (Die.empty (.programming ⟨5, 0, 0⟩ 3000 (some 100)))

/-- What the statement about a hand-over into an ERASE_PENDING block asks of its state. -/
abbrev pendsA (s : State) : Prop :=
  handsOver s 1 ⟨5, 0, 0⟩ [1] ∧ s.request 0 = some { writeA with mark := true } ∧ s.request 1 = some readA ∧
    (s.block lineA.global).lock = .opened ∧ (s.block lineA.global).clean = true ∧
    (s.block lineA.global).erase = .pending ∧
    (s.die lineA.die).workQueue = [.program 4] ++ .erase lineA.block 7 :: []

theorem witness_ProgramPassFreesBuffer_opensPending :
    pendsA (pendingA 4) ∧ (pendingA 4).writeHeldInBlock lineA = true ∧ (pendingA 4).writeHeldAhead readA = false := by
  decide +kernel

theorem witness_ProgramPassFreesBuffer_joinsHold :
    pendsA (pendingA 2) ∧ (pendingA 2).writeHeldAhead readA = true ∧ readA.mark = false ∧
      0 ∉ ((pendingA 2).block lineA.global).holdList := by decide +kernel

/-- R59, R114: the unmarked read that waited behind the marked write meets the buffer that it opened, though the block
is ERASE_PENDING and a write of the line that came after the read is held. -/
theorem test_pulled_read_meets_opened_buffer :
    (match exec (.programEndPass 1) (pendingA 4) with
      | .next u => u.responses.map Response.tag == [0, 1] && u.waitList.isEmpty
      | _ => false) = true := by decide +kernel

/-- R143: where the held write of the line came before the read, the read joins the block hold list behind it. -/
theorem test_pulled_read_joins_behind_held_write :
    (match exec (.programEndPass 1) (pendingA 2) with
      | .next u =>
        u.responses.map Response.tag == [0] && u.waitList.isEmpty && (u.block lineA.global).holdList == [9, 1]
      | _ => false) = true := by decide +kernel

theorem witness_ProgramPassFreesBuffer_stopped :
    let s := { (waitingA.setBlock lineA.global ⟨.shut, .healthy, .none, false, []⟩) with waitList := [0] }
    handsOver s 0 ⟨5, 0, 0⟩ [] ∧ s.request 0 = some writeA ∧ (s.block lineA.global).lock = .shut := by decide +kernel

theorem witness_FirstProgramFailRetries :
    let s := (dieIn (.halting (.program progA) 3000 60)).setBuffer 0 (.programming lineA 0 writtenA 0)
    (s.die 0).runningProgram = some progA ∧ s.buffer 0 = .programming lineA 0 writtenA 0 ∧ (s.die 0).context = [] ∧
      s.othersAtRest 0 ∧ s.faultLog.length < 16 ∧ (s.die 0).readQueue = [] ∧ s.settings.guardInterval ≠ 0 := by decide +kernel

theorem witness_FirstProgramFailRetries_read :
    let s := (base.setDie 0 ⟨.halting (.program progA) 3000 60, [.hostRead 1 3 (some 1)], [], [], 0⟩).setBuffer 0
      (.programming lineA 0 writtenA 0)
    (s.die 0).runningProgram = some progA ∧ s.buffer 0 = .programming lineA 0 writtenA 0 ∧ (s.die 0).context = [] ∧
      s.othersAtRest 0 ∧ s.faultLog.length < 16 ∧ (s.die 0).readQueue = [.hostRead 1 3 (some 1)] := by decide +kernel

/-- The second attempt of buffer 0 runs on die 0; of the other buffers of the block one is POSTED with its PROGRAM
entry, one LOADING with a write and a read held, and the log is full. -/
def failingA : State :=
  fullLog (((((base.setDie 0 ⟨.programming progA 3000 (some 100), [.baseLoad 1 9 3], [.program 2], [], 0⟩).setBuffer 0
    (.programming lineA 0 writtenA 1)).setBuffer 2 (.posted ⟨0, 1, 8⟩ 2 writtenA none)).setBuffer 3
    (.loading ⟨0, 1, 9⟩ 3 [0, 1])).setRequest 0 (some { writeA with line := ⟨0, 1, 9⟩ }) |>.setRequest 1
    (some { readA with line := ⟨0, 1, 9⟩ }))

theorem witness_FinalProgramFailLosesLine :
    (failingA.die 0).runningProgram = some progA ∧ failingA.buffer 0 = .programming lineA 0 writtenA 1 ∧
      (failingA.die 0).context = [] ∧ failingA.othersAtRest 0 ∧ failingA.noWriteWaits ∧ failingA.PoolLaw ∧
      ((bufferIndices.filter fun i => i != 0 && (failingA.buffer i).inBlock lineA.global).flatMap fun i =>
        (failingA.buffer i).held) = [0, 1] ∧
      (failingA.request 0).map (fun r => r.line.die) = some 0 ∧ failingA.isWrite 0 = true ∧
      (failingA.request 1).map (fun r => r.line.die) = some 0 ∧ failingA.isWrite 1 = false ∧
      failingA.faultLog.length = 16 := by unfold State.PoolLaw; decide +kernel

theorem witness_FinalProgramFailLosesLine_alone :
    let s := (dieIn (.programming progA 3000 (some 100))).setBuffer 0 (.programming lineA 0 writtenA 1)
    (s.die 0).runningProgram = some progA ∧ s.buffer 0 = .programming lineA 0 writtenA 1 ∧ (s.die 0).context = [] ∧
      (s.die 0).readQueue = [] ∧ (s.die 0).workQueue = [] ∧ s.othersAtRest 0 ∧ s.noWriteWaits ∧ s.PoolLaw ∧
      ∀ j, j ≠ 0 → (s.buffer j).inBlock lineA.global = false := by unfold State.PoolLaw; decide +kernel

/-- What the statement about ERASE_END PASS asks of its state. -/
abbrev erasePasses (s : State) (held : List Tag) : Prop :=
  (s.die 0).runningErase = some eraseA ∧ (s.die 0).context = [] ∧ (s.die 0).readQueue = [] ∧
    (s.die 0).workQueue = [] ∧ s.othersAtRest 0 ∧ s.noWriteWaits ∧ s.flushesOpen ∧
    (s.block (globalBlock 0 eraseA.block)).holdList = held ∧ s.waitList = [] ∧
    lineA.global = globalBlock 0 eraseA.block ∧ (s.block lineA.global).lock = .opened ∧
    (s.regionOf lineA.global).map RegionEntry.mode = some .combine

theorem witness_ErasePassMakesBlockClean_empty : erasePasses (erasedWith []) [] := by decide +kernel

theorem witness_ErasePassMakesBlockClean_reads :
    let s := erasedWith [(0, readA), (4, readA)]
    erasePasses s [0, 4] ∧ s.request 0 = some readA ∧ s.request 4 = some readA ∧ readA.payload.isWrite = false ∧
      s.openBuffer lineA = none ∧ s.programmingBuffer lineA = none := by decide +kernel

theorem witness_ErasePassMakesBlockClean_opens :
    let s := erasedWith [(0, writeA), (4, readA)]
    erasePasses s [0, 4] ∧ s.request 0 = some writeA ∧ s.request 4 = some readA ∧ writeA.payload.isWrite = true ∧
      writeA.coversNothing = false ∧ (∀ j, (s.buffer j).line? ≠ some lineA) ∧ s.lowestFree = some 0 ∧
      ¬ s.postsNow 0 lineA
        (meetInOrder (fun _ => .combine) (.fresh (Vector.replicate 64 0xFF)) [(0, writeA), (4, readA)]).1 := by
  decide +kernel

theorem witness_ErasePassMakesBlockClean_waits :
    let s := { erasedWith [(0, writeA)] with buffers := fullPool.buffers }
    erasePasses s [0] ∧ s.request 0 = some writeA ∧ writeA.payload.isWrite = true ∧ writeA.coversNothing = false ∧
      s.openBuffer lineA = none ∧ s.lowestFree = none ∧ ∀ j, (s.buffer j).isFilling = false := by decide +kernel

theorem witness_ErasePassMakesBlockClean_shut :
    let s := (erasedWith [(0, writeA)]).modifyBlock 1 fun b => { b with lock := .shut }
    (s.die 0).runningErase = some eraseA ∧ s.othersAtRest 0 ∧ s.noWriteWaits ∧ s.flushesOpen ∧
      (s.block (globalBlock 0 eraseA.block)).holdList = [0] ∧ s.waitList = [] ∧ s.request 0 = some writeA ∧
      writeA.payload.isWrite = true ∧ (s.block lineA.global).lock = .shut ∧
      (s.regionOf lineA.global).map RegionEntry.mode = some .combine := by decide +kernel

theorem witness_EraseFailMakesBlockFailed :
    let s := fullLog (erasedWith [(0, writeA), (4, readA), (5, readA)])
    (s.die 0).runningErase = some eraseA ∧ (s.die 0).context = [] ∧ (s.die 0).readQueue = [] ∧
      (s.die 0).workQueue = [] ∧ s.othersAtRest 0 ∧ (s.block (globalBlock 0 eraseA.block)).holdList = [0, 4, 5] ∧
      s.request 0 = some writeA ∧ s.request 4 = some readA ∧ s.request 5 = some readA ∧
      lineA.global = globalBlock 0 eraseA.block ∧ s.isWrite 0 = true ∧ s.isWrite 4 = false := by decide +kernel

theorem witness_HaltedPushesContext :
    let s := dieIn (.halting (.erase eraseA) 5000 60)
    (s.die 0).state = .halting (.erase eraseA) 5000 60 ∧ s.othersAtRest 0 ∧ (s.die 0).readQueue = [] ∧
      s.settings.holdOff ≠ 0 := by decide +kernel

theorem witness_HaltedPushesContext_read :
    let s := base.setDie 0 ⟨.halting (.program progA) 3000 60, [.hostRead 1 3 (some 1)], [], [], 0⟩
    (s.die 0).state = .halting (.program progA) 3000 60 ∧ s.othersAtRest 0 ∧
      (s.die 0).readQueue = [.hostRead 1 3 (some 1)] := by decide +kernel

theorem witness_DieResetEnds_starting :
    let s := fullLog (dieIn (.starting (some 200)))
    (s.die 0).state = .starting (some 200) ∧ (s.die 0).readQueue = [] ∧ (s.die 0).workQueue = [] := by decide +kernel

theorem witness_DieResetEnds_restart :
    ((dieIn (.offline (some (9, 200)))).die 0).state = .offline (some (9, 200)) := by decide +kernel

/-- What the statement about an operation limit asks of its state. -/
abbrev goesOffline (s : State) (waiting : List Tag) : Prop :=
  s.othersAtRest 0 ∧ s.PoolLaw ∧ s.waitingOnDie 0 = waiting ∧ waiting.Nodup ∧
    (∀ t, s.isForDie 0 t = true ↔ t ∈ waiting) ∧ ∀ t ∈ s.waitList, s.isWrite t = true → s.isForDie 0 t = true

theorem witness_OperationLimitTakesDieOffline_read :
    let s := fullLog (dieIn (.reading (.hostRead 1 2 none) 8))
    goesOffline s [] ∧ (s.die 0).state = .reading (.hostRead 1 2 none) 8 := by unfold goesOffline State.PoolLaw; decide +kernel

theorem witness_OperationLimitTakesDieOffline_erase :
    let s := { ((erasedWith [(0, writeA), (4, readA)]).setRequest 5 (some writeA)) with waitList := [5] }
    goesOffline s [0, 4, 5] ∧ (s.die 0).state = .erasing eraseA 5000 none := by unfold goesOffline State.PoolLaw; decide +kernel

theorem witness_OperationLimitTakesDieOffline_program :
    let s := (((base.setDie 0 ⟨.halting (.program progA) 3000 60, [.hostRead 1 2 (some 4)], [.program 2, .erase 9 3],
      [⟨.erase eraseA, 900⟩], 1⟩).setBuffer 0 (.programming lineA 0 writtenA 0)).setBuffer 2
      (.posted lineA 1 writtenA (some 0))).setRequest 4 (some readA)
    goesOffline s [4] ∧ (s.die 0).state = .halting (.program progA) 3000 60 ∧
      (s.die 0).admittedErases = [eraseA, ⟨9, 3⟩] := by unfold goesOffline State.PoolLaw; decide +kernel

theorem witness_GuardExpiryHaltsForRead :
    let s := dieIn (.erasing eraseA 5000 (some 100))
    let v := base.setDie 0 ⟨.programming progA 3000 (some 100), [.hostRead 1 3 (some 1)], [], [], 0⟩
    (s.die 0).state = (ArrayOp.erase eraseA).runningState 5000 (some 100) ∧ (s.die 0).readQueue = [] ∧
      (v.die 0).state = (ArrayOp.program progA).runningState 3000 (some 100) ∧ (v.die 0).readQueue ≠ [] := by decide +kernel

theorem witness_HoldOffDecision_continues :
    let s := base.setDie 0 ⟨.halted (some 10), [], [], [⟨.erase eraseA, 4000⟩], 0⟩
    (s.die 0).state = .halted (some 10) ∧ s.settings.guardInterval ≠ 0 ∧
      (s.die 0).context = [] ++ [⟨.erase eraseA, 4000⟩] ∧ (s.die 0).workQueue = [] := by decide +kernel

theorem witness_HoldOffDecision_interleaves :
    let s := (base.setDie 0 ⟨.halted (some 10), [], [.program 0], [⟨.erase ⟨9, 0⟩, 4000⟩], 1⟩).setBuffer 0
      (.posted lineA 0 writtenA none)
    (s.die 0).state = .halted (some 10) ∧ s.settings.guardInterval ≠ 0 ∧ (s.die 0).workQueue = [.program 0] ∧
      s.buffer 0 = .posted lineA 0 writtenA none ∧ lineA.block ≠ 9 ∧
      (s.die 0).interleave < s.settings.interleaveBudget := by decide +kernel

theorem witness_HoldOffDecision_linked :
    let s := (base.setDie 0 ⟨.halted (some 10), [], [.program 4], [⟨.erase ⟨9, 0⟩, 4000⟩], 0⟩).setBuffer 4
      (.posted lineA 1 writtenA (some 0))
    (s.die 0).state = .halted (some 10) ∧ (s.die 0).context = [] ++ [⟨.erase ⟨9, 0⟩, 4000⟩] ∧
      (s.die 0).workQueue = [.program 4] ∧ (s.buffer 4).predecessor? ≠ none := by decide +kernel

theorem witness_HoldOffDecision_retries :
    let s := (base.setDie 0 ⟨.halted (some 10), [], [.program 0], [⟨.erase ⟨9, 0⟩, 4000⟩], 1⟩).setBuffer 0
      (.programming lineA 0 writtenA 1)
    (s.die 0).state = .halted (some 10) ∧ (s.die 0).context = [⟨.erase ⟨9, 0⟩, 4000⟩] ∧
      (s.die 0).workQueue = [.program 0] ∧ s.buffer 0 = .programming lineA 0 writtenA 1 ∧ lineA.die = 0 ∧
      lineA.block ≠ 9 ∧ (s.die 0).interleave < s.settings.interleaveBudget := by decide +kernel

theorem witness_UnawaitedMessagesDropped :
    (base.die 0).state = .ready := by decide +kernel

theorem witness_FramesAreTakenOrDropped :
    base.rstnLow = false ∧ base.executing = none ∧ (during .status).executing ≠ none ∧
    (during (.malformed 0x7F)).completing (.malformed 0x7F) ∧ ({ base with rstnLow := true } : State).rstnLow = true := by decide +kernel

theorem witness_CompletionRowsRun :
    base.rstnLow = false ∧ base.executing = none ∧
    (during .status).executing = some ⟨.status, 5⟩ ∧ MgmtCommand.status ≠ .faultRead := by decide +kernel

theorem witness_StatusReportsPart :
    (during .status).completing .status := by decide +kernel

theorem witness_RegionReadReturnsEntry :
    (during (.regionRead 7)).completing (.regionRead 7) ∧ (7 : Byte).toNat = (7 : Fin 8).val ∧
    (during (.regionRead 8)).completing (.regionRead 8) ∧ 7 < (8 : Byte).toNat := by decide +kernel

theorem witness_DetailQueriesReport :
    (during (.blockQuery 1023)).completing (.blockQuery 1023) ∧
    (during (.blockQuery 1024)).completing (.blockQuery 1024) ∧ (during (.bufferQuery 11)).completing (.bufferQuery 11) ∧
    (during (.bufferQuery 12)).completing (.bufferQuery 12) ∧ (during (.dieQuery 3)).completing (.dieQuery 3) ∧
    (during (.dieQuery 4)).completing (.dieQuery 4) ∧ (during .configRead).completing .configRead ∧
    base.fittedDies * 256 = 1024 := by decide +kernel

theorem witness_ConfigureSetsAllOrNone :
    (during (.configure 4095 0 1023 255 15 3)).completing (.configure 4095 0 1023 255 15 3) ∧
    (during (.configure 4096 0 0 0 0 0)).completing (.configure 4096 0 0 0 0 0) ∧ base.mode = .running := by decide +kernel

theorem witness_RegionWriteStoresEntry :
    let c : MgmtCommand := .regionWrite 1 0 0 1023 2 1 1
    (during c).completing c ∧ (during c).mode = .running ∧ (2 : Byte) = WriteMode.appendOnce.code ∧
      (1 : Byte) = Posting.atOnce.code := by decide +kernel

theorem witness_RegionWriteStoresEntry_overlap :
    let c : MgmtCommand := .regionWrite 1 1 1023 1023 1 0 0
    (during c).completing c ∧ ((during c).regions[0]).valid = true ∧
      (1023 : BitVec 16).toNat ≤ ((during c).regions[0]).last.val ∧
      ((during c).regions[0]).first.val ≤ (1023 : BitVec 16).toNat := by decide +kernel

theorem witness_RegionWriteStoresEntry_refused :
    let c : MgmtCommand := .regionWrite 8 0 0 0 0 0 0
    (during c).completing c ∧ 7 < (8 : Byte).toNat := by decide +kernel

theorem witness_BusyCommandsRefused :
    let s := { during .faultClear with mode := .starting }
    let v := { during (.ceiling 4 0) with mode := .resetting }
    MgmtCommand.faultClear.refusedWhenBusy = true ∧ s.completing .faultClear ∧ s.mode = .starting ∧
      v.completing (.ceiling 4 0) ∧ v.mode = .resetting ∧ 4 ≤ (4 : Byte).toNat := by decide +kernel

theorem witness_EraseRefusedInOrder :
    let c : MgmtCommand := .erase 1
    let s := (during c).setBlock 1 ⟨.shut, .healthy, .none, false, []⟩
    s.completing c ∧ s.mode = .running ∧ (s.die (dieOf 1)).isOffline = false ∧
      (s.regionOf 1).map RegionEntry.erasePermitted = some true ∧ (s.block 1).lock = .shut := by decide +kernel

/-- What the statement about an admitted ERASE of block 1 asks of its state. -/
abbrev admitsErase (s : State) : Prop :=
  s.completing (MgmtCommand.erase 1) ∧ s.mode = .running ∧ (s.die (dieOf 1)).isOffline = false ∧
    (s.regionOf 1).map RegionEntry.erasePermitted = some true ∧ (s.block 1).lock = .opened ∧
    (s.block 1).erase = .none ∧ s.ticketsInUse.length < 8

theorem witness_EraseAdmitted_startsErase :
    let s := during (.erase 1)
    admitsErase s ∧ s.fillingInOrder (fun b => b.inBlock 1) [] ∧ s.othersAtRest (dieOf 1) ∧
      (s.die (dieOf 1)).state = .ready ∧ (s.die (dieOf 1)).readQueue = [] ∧ (s.die (dieOf 1)).workQueue = [] ∧
      s.settings.guardInterval ≠ 0 ∧ (∀ i, (s.buffer i).inBlock 1 = false) ∧ s.writeWaitsForBlock 1 = false := by
  decide +kernel

theorem witness_EraseAdmitted_startsProgram :
    let s := ((during (.erase 1)).setBuffer 5 (.filling ⟨0, 1, 3⟩ 1 writtenA none (some 9))).setBuffer 2
      (.filling lineA 4 writtenA none none)
    admitsErase s ∧ s.fillingInOrder (fun b => b.inBlock 1) [5, 2] ∧ s.othersAtRest (dieOf 1) ∧
      (s.die (dieOf 1)).state = .ready ∧ (s.die (dieOf 1)).readQueue = [] ∧ (s.die (dieOf 1)).workQueue = [] ∧
      s.settings.guardInterval ≠ 0 := by decide +kernel

theorem witness_EraseAdmitted_waits :
    let s := ((((during (.erase 1)).setDie 0 ⟨.erasing ⟨9, 0⟩ 5000 (some 100), [], [.program 3], [], 0⟩).setBuffer 5
      (.filling ⟨0, 1, 3⟩ 1 writtenA none (some 9))).setBuffer 2 (.loading lineA 4 [6])).setRequest 6 (some writeA)
    admitsErase s ∧ s.heldOfBlock 1 = [6] ∧ s.fillingInOrder (fun b => b.inBlock 1) [5] ∧ s.othersAtRest (dieOf 1) ∧
      (s.die (dieOf 1)).workQueue = [.program 3] ∧ (s.die (dieOf 1)).state ≠ .ready ∧
      (s.die (dieOf 1)).atRest = true := by decide +kernel

/-- The die controllers with the PROGRAM entries of these buffers queued. -/
def queuedFor (s : State) (is : List BufIx) (d : DieIx) : Die :=
  { s.die d with workQueue := (s.die d).workQueue ++ programEntries (is.filter fun i => (s.buffer i).inDie d) }

theorem witness_FlushTracksItsBuffers :
    let s := (((during (.flush 0)).setDie 0 (Die.empty (.programming progA 3000 (some 100)))).setBuffer 0
      (.programming lineA 0 writtenA 0)).setBuffer 7 (.filling ⟨0, 5, 0⟩ 3 writtenA none (some 9)) |>.setBuffer 4
      (.filling lineA 6 writtenA (some 0) (some 9))
    let members := bufferIndices.filter fun i => (FlushScope.die 0).takes (s.buffer i)
    s.completing (.flush 0) ∧ s.mode = .running ∧ members = [0, 4, 7] ∧ s.ticketsInUse.length < 8 ∧ s.flushesOpen ∧
      s.fillingInOrder (FlushScope.die 0).takes [7, 4] ∧ (s.block lineA.global).erase ≠ .pending ∧
      (s.block (LineAddr.mk 0 5 0).global).erase ≠ .pending ∧ ∀ d, (queuedFor s [7, 4] d).atRest = true := by
  decide +kernel

theorem witness_FlushTracksItsBuffers_noMember :
    let s := during (.flush 0xFF)
    s.completing (.flush 0xFF) ∧ s.mode = .running ∧
      (bufferIndices.filter fun i => FlushScope.all.takes (s.buffer i)) = [] ∧ s.ticketsInUse.length < 8 ∧
      s.flushesOpen ∧ s.fillingInOrder FlushScope.all.takes [] ∧ ∀ d, (queuedFor s [] d).atRest = true := by
  decide +kernel

theorem witness_FlushTracksItsBuffers_full :
    let s := { during (.flush 0xFF) with completions := List.replicate 8 ⟨0, .flush, .done, .all, none⟩ }
    s.completing (.flush 0xFF) ∧ s.mode = .running ∧ 8 ≤ s.ticketsInUse.length := by decide +kernel

theorem witness_FlushTracksItsBuffers_refused :
    (during (.flush 4)).completing (.flush 4) ∧ (4 : Byte) ≠ 0xFF ∧
    (during (.flush 4)).fittedDies ≤ (4 : Byte).toNat := by decide +kernel

theorem witness_DieRestartSendsReset :
    let s := (during (.dieRestart 0)).setDie 0 (Die.empty (.offline none))
    s.completing (.dieRestart 0) ∧ s.mode = .running ∧ (s.die 0).state = .offline none ∧ s.ticketsInUse.length < 8 := by decide +kernel

theorem witness_DieRestartSendsReset_refused :
    let s := during (.dieRestart 0)
    let v := s.setDie 0 (Die.empty (.offline (some (9, 200))))
    s.completing (.dieRestart 0) ∧ (s.die 0).isOffline = false ∧ v.completing (.dieRestart 0) ∧
      (v.die 0).state = .offline (some (9, 200)) ∧ (during (.dieRestart 4)).completing (.dieRestart 4) ∧
      (during (.dieRestart 4)).fittedDies ≤ (4 : Byte).toNat := by decide +kernel

theorem witness_RecordsAreReadOldestFirst :
    let r : FaultRecord := ⟨5, .eraseFail 0 1⟩
    let c : Completion := ⟨9, .flush, .done, .all, none⟩
    let s := { during .faultRead with faultLog := [r] }
    let v := { during .completionRead with completions := [c] }
    s.completing .faultRead ∧ s.faultLog = [r] ∧ v.completing .completionRead ∧ v.completions = [c] ∧
      (during .faultRead).faultLog = [] ∧ (during .completionRead).completions = [] ∧
      (during .faultClear).completing .faultClear ∧ (during .faultClear).mode = .running := by decide +kernel

theorem witness_ChannelResetClearsTraffic :
    (during .channelReset).completing .channelReset ∧ (during .channelReset).mode = .running := by decide +kernel

theorem witness_ChannelResetClearsTraffic_noLiveDie :
    let s := { during .channelReset with dies := Vector.replicate 4 (Die.empty (.offline none)) }
    s.completing .channelReset ∧ s.mode = .running ∧ ∀ d, (s.die d).isOffline = true := by decide +kernel

theorem witness_FrameDecodesToItsCommand :
    encodeFrame (.erase 265) = [0x10, 0x01, 0x09] := by decide +kernel

/-- PROTN is asserted, the ceiling of die 0 stands at 256, and a block of die 3, which is not pinned, is OPEN. -/
def guarded : State :=
  { State.reset with protn := true, ceilings := State.reset.ceilings.set 0 256 }.setBlock 1023
    ⟨.opened, .healthy, .none, false, []⟩

theorem witness_ProtnLawKept : guarded.ProtnLaw := by
  refine ⟨fun _ g hg => ?_, by decide +kernel, by decide +kernel⟩
  by_cases h : g = 1023
  · subst h; exact absurd hg (by decide +kernel)
  · have hne : ¬ 1023 = g.val := fun e => h (Fin.ext e.symm)
    simp [guarded, State.block, State.setBlock, State.reset, BlockRecord.initial, hne]

theorem witness_ProtnLawKept_premises :
    guarded.protn = true ∧ guarded.pinned 0 = true ∧ (guarded.block 1023).lock = .opened ∧
      guarded.pending = [] := by decide +kernel

/-- Two valid region table entries next to each other. -/
def twoRegions : State :=
  { State.reset with
    regions := (State.reset.regions.set 0 ⟨true, 0, 15, .combine, true, .window⟩).set 7
      ⟨true, 16, 1023, .readOnly, false, .atOnce⟩ }

theorem witness_RegionAndFaultLogLawsKept_regions : twoRegions.RegionLaw := by
  intro i j hij g
  rintro ⟨hi, hj⟩
  fin_cases i <;> fin_cases j <;>
    first
      | exact absurd rfl hij
      | (simp [twoRegions, State.reset, RegionEntry.initial, RegionEntry.contains] at hi hj <;> omega)

theorem witness_RegionAndFaultLogLawsKept :
    let s := (fullLog programmingA).setBuffer 11 (.filling lineA 1 freshFF (some 0) none)
    s.FaultLogLaw ∧ s.PoolLaw ∧ (s.buffer 11).line? = (s.buffer 0).line? := by
  unfold State.FaultLogLaw State.PoolLaw; decide +kernel

/-- A program inside an erase halt is being halted on die 0, two requests are outstanding, and eight ticket numbers are
in use. -/
def nested : State :=
  { ((base.setRequest 3 (some readA)).setRequest 4 (some writeA)).setDie 0
      ⟨.halting (.program progA) 3000 60, [], [.erase 9 3], [⟨.erase ⟨5, 7⟩, 900⟩], 1⟩ with
    flushes := [⟨255, .all, [0]⟩]
    completions := [0, 1, 2, 4, 5].map fun t => ⟨t, .flush, .done, .all, none⟩ }

theorem witness_PortLawKept :
    nested.PortLaw ∧ nested.ContextLaw ∧ nested.TicketLaw ∧ nested.ticketsInUse.length = 8 ∧
      (nested.die 0).operations = [.erase ⟨5, 7⟩, .program progA] := by
  unfold State.PortLaw State.ContextLaw Die.ContextLaw State.TicketLaw; decide +kernel

theorem witness_PortLawKept_order :
    nested.OrderLaw ∧ nested.request 3 = some readA ∧ nested.request 4 = some writeA := by
  have apart : ∀ t t' : Tag, t ≠ t' → nested.request t ≠ none →
      (nested.request t).map Request.order ≠ (nested.request t').map Request.order := by decide +kernel
  refine ⟨fun t t' r r' h h' e => ?_, by decide +kernel, by decide +kernel⟩
  by_contra hne
  exact apart t t' hne (by simp [h]) (by simp [h, h', e])

theorem witness_TrafficKeepsSetup :
    (Instr.halted 0).isTraffic = true ∧ exec (.halted 0) base = .next base.quiet := ⟨by decide, rfl⟩

end Sys2Proof.Tests
end

section
/-! The region table as the management port reads it out: what a command in execution does when it completes, which
byte names a region, the entry's bytes, and REGION_READ from these (R152, R34). -/

namespace Sys2Proof.Machine

open Sys2Proof

/-- The completion happening of the command in execution is its action, then its reply (R152). -/
theorem State.runCommand_quiet_of_completing {s : State} {c : MgmtCommand} (h : s.completing c)
    (act : State → State × Answer) :
    s.quiet.runCommand c act = (act s.quiet).1.conclude c (act s.quiet).2 := by
  obtain ⟨hrstn, hexec⟩ := h
  obtain ⟨x, hx, hcommand⟩ := Option.map_eq_some_iff.mp hexec
  simp [State.runCommand, hrstn, hx, hcommand]

theorem State.quiet_conclude (s : State) (c : MgmtCommand) (a : Answer) :
    s.quiet.conclude c a = { s.replied c a.status a.fields with out := Outputs.none } := rfl

theorem regionOfByte_of_toNat_eq {b : Byte} {i : Fin 8} (h : b.toNat = i.val) : regionOfByte b = some i := by
  simp [regionOfByte, h]

theorem regionOfByte_of_seven_lt {b : Byte} (h : 7 < b.toNat) : regionOfByte b = none :=
  dif_neg (by omega)

/-- A flag alone in its byte is 0x01 or 0x00 (section 11.5). -/
theorem byte_flagBit_zero (b : Bool) : byte (flagBit b 0) = if b then 0x01 else 0x00 := by
  cases b <;> rfl

/-- REGION_READ of a byte that names a region answers DONE with the byte and the entry (R34). -/
theorem exec_regionRead_of_region {index : Byte} {s : State} {i : Fin 8} (h : s.completing (.regionRead index))
    (hi : regionOfByte index = some i) :
    exec (.regionRead index) s =
      .next { s.replied (.regionRead index) .done (index :: (s.regions[i]).encode) with out := Outputs.none } := by
  simp only [exec, execRegionRead, State.runCommand_quiet_of_completing h, hi, State.quiet_conclude,
    State.quiet_regions]

/-- REGION_READ of a byte that names no region is refused (R34, R184). -/
theorem exec_regionRead_of_no_region {index : Byte} {s : State} (h : s.completing (.regionRead index))
    (hi : regionOfByte index = none) :
    exec (.regionRead index) s =
      .next { s.replied (.regionRead index) (.refused .badArgument) [] with out := Outputs.none } := by
  simp only [exec, execRegionRead, State.runCommand_quiet_of_completing h, hi, State.quiet_conclude, refusal]

/-- Settles O44: the index names a region exactly up to 7, and the six fields are compared with the entry's bytes one
by one. -/
theorem regionReadReturnsEntry : Obligations.RegionReadReturnsEntry := by
  unfold Obligations.RegionReadReturnsEntry
  intro index s h
  refine ⟨fun i hi => ?_, fun hlarge => exec_regionRead_of_no_region h (regionOfByte_of_seven_lt hlarge)⟩
  rw [exec_regionRead_of_region h (regionOfByte_of_toNat_eq hi)]
  generalize s.regions[i] = e
  obtain ⟨valid, first, last, mode, erasePermitted, posting⟩ := e
  simp only [RegionEntry.encode, byte_flagBit_zero]
  cases mode <;> cases posting <;> rfl

end Sys2Proof.Machine
end

section
/-! The summary of the part: its flags byte, that a happening's beginning leaves the summary as it is, and
STATUS from these (R157, section 11.3). -/

namespace Sys2Proof.Machine

open Sys2Proof

/-- Bits 0 and 1 of a flags byte, as numbers (section 11.3). -/
theorem flagBit_zero_add_flagBit_one (a b : Bool) :
    flagBit a 0 + flagBit b 1 = (if a then 1 else 0) + (if b then 2 else 0) := rfl

/-- The summary of the part does not read the outputs. -/
@[simp] theorem State.statusFields_quiet (s : State) : s.quiet.statusFields = s.statusFields := rfl

/-- STATUS makes no check: in every part mode it answers DONE with the summary (R156, R157). -/
theorem exec_status_of_completing {s : State} (h : s.completing .status) :
    exec .status s = .next { s.replied .status .done s.statusFields with out := Outputs.none } := by
  simp only [exec, execStatus, State.runCommand_quiet_of_completing h, State.quiet_conclude,
    State.statusFields_quiet]

/-- Settles O43: the summary is compared byte by byte, with the mode code and the die codes by cases on the mode and
on the die's state. -/
theorem statusReportsPart : Obligations.StatusReportsPart := by
  unfold Obligations.StatusReportsPart
  intro s h modeCode dieCode
  have hmode : s.mode.code = modeCode := by
    simp only [modeCode]
    cases s.mode <;> rfl
  have hdie (d : DieIx) : (s.die d).state.code = dieCode d := by
    simp only [dieCode]
    cases (s.die d).state <;> rfl
  simp only [exec_status_of_completing h, State.statusFields, dieIndices, List.map_cons, List.map_nil,
    List.cons_append, List.nil_append, hmode, hdie, flagBit_zero_add_flagBit_one]

end Sys2Proof.Machine
end

section
/-! What each kind of command can do: a traffic command's outcome, the action of each management command, and the one
shape of every happening of the management port. The laws of every step are derived from these. -/

namespace Sys2Proof

/-- The happenings of the management port: its frames and the completions of its commands. -/
def Instr.isManagement : Instr → Bool
  | .commandFrame _ _ => true
  | .replyFrame _ => true
  | .malformedFrame _ => true
  | .status => true
  | .configure _ _ _ _ _ _ => true
  | .configRead => true
  | .regionWrite _ _ _ _ _ _ _ => true
  | .regionRead _ => true
  | .lock _ _ _ => true
  | .ceiling _ _ => true
  | .blockQuery _ => true
  | .bufferQuery _ => true
  | .dieQuery _ => true
  | .erase _ => true
  | .flush _ => true
  | .dieRestart _ => true
  | .faultRead => true
  | .faultClear => true
  | .completionRead => true
  | .channelReset => true
  | _ => false

end Sys2Proof

namespace Sys2Proof.Machine

open Sys2Proof

/-! ## The management port -/

/-- A reading command's action: it answers and changes nothing. -/
def answering (a : State → Answer) (s : State) : State × Answer := (s, a s)

/-- What a command does in its completion happening (R152); `exec_completion` ties it to the command's row. -/
def actionOf : MgmtCommand → State → State × Answer
  | .status => answering fun s => ⟨.done, s.statusFields⟩
  | .configure c h g o b e => State.unlessBusy (State.configure c h g o b e)
  | .configRead => answering fun s => ⟨.done, s.settings.encode⟩
  | .regionWrite i v f l m e p => State.unlessBusy (State.regionWrite i v f l m e p)
  | .regionRead i => answering fun s => (regionOfByte i).elim (refusal .badArgument)
      fun j => ⟨.done, i :: (s.regions[j]).encode⟩
  | .lock f l k => State.unlessBusy (State.lock f l k)
  | .ceiling d v => State.ceiling d v
  | .blockQuery b => answering fun s => (s.fittedBlock b).elim (refusal .badArgument) fun g => ⟨.done, s.blockFields g⟩
  | .bufferQuery i => answering fun s => (bufferOfByte i).elim (refusal .badArgument)
      fun j => ⟨.done, (s.buffer j).queryFields⟩
  | .dieQuery d => answering fun s => (s.fittedDie d).elim (refusal .badArgument)
      fun e => ⟨.done, (s.die e).queryFields⟩
  | .erase b => State.unlessBusy (State.erase b)
  | .flush c => State.unlessBusy (State.flush c)
  | .dieRestart d => State.unlessBusy (State.dieRestart d)
  | .faultRead => State.faultRead
  | .faultClear => State.unlessBusy State.faultClear
  | .completionRead => State.completionRead
  | .channelReset => State.unlessBusy State.channelReset
  | .malformed _ => answering fun _ => refusal .badCommand

/-- The row of a command is its completion happening (R152). -/
theorem exec_completion (c : MgmtCommand) (s : State) (h : c ≠ .malformed 0) :
    exec c.completion s = .next (s.quiet.runCommand c (actionOf c)) := by
  cases c with
  | regionRead i =>
    simp only [MgmtCommand.completion, exec, execRegionRead, actionOf]
    congr 2; funext s; dsimp only [answering]; cases regionOfByte i <;> rfl
  | blockQuery b =>
    simp only [MgmtCommand.completion, exec, execBlockQuery, actionOf]
    congr 2; funext s; dsimp only [answering]; cases s.fittedBlock b <;> rfl
  | bufferQuery i =>
    simp only [MgmtCommand.completion, exec, execBufferQuery, actionOf]
    congr 2; funext s; dsimp only [answering]; cases bufferOfByte i <;> rfl
  | dieQuery d =>
    simp only [MgmtCommand.completion, exec, execDieQuery, actionOf]
    congr 2; funext s; dsimp only [answering]; cases s.fittedDie d <;> rfl
  | malformed b =>
    have hb : b ≠ 0 := fun e => h (by rw [e])
    exact if_neg hb
  | _ => rfl

/-- The states differ at most in what the management port holds and in the outputs. -/
def State.PortOnly (s u : State) : Prop :=
  ∃ reply executing out, u = { s with reply := reply, executing := executing, out := out }

theorem State.PortOnly.of_eq {s u : State} (h : u = { s with reply := u.reply, executing := u.executing, out := u.out }) :
    s.PortOnly u :=
  ⟨u.reply, u.executing, u.out, h⟩

/-- A completion happening is the command's action on a state that differs in the port alone, with RSTN high, or no
action at all. -/
theorem State.runCommand_cases (s : State) (c : MgmtCommand) (act : State → State × Answer) :
    s.PortOnly (s.runCommand c act) ∨
      ∃ v, s.PortOnly v ∧ v.rstnLow = false ∧ ((act v).1).PortOnly (s.runCommand c act) := by
  unfold State.runCommand
  split
  · exact .inl (.of_eq rfl)
  · next hr =>
    have high : s.rstnLow = false := by simpa using hr
    split
    · exact .inr ⟨s.takeCommand c, .of_eq rfl, high, .of_eq rfl⟩
    · split
      · exact .inr ⟨s, .of_eq rfl, high, .of_eq rfl⟩
      · exact .inl (.of_eq rfl)

theorem State.PortOnly.trans {s u v : State} (h : s.PortOnly u) (k : u.PortOnly v) : s.PortOnly v := by
  obtain ⟨_, _, _, rfl⟩ := h
  obtain ⟨r, e, o, rfl⟩ := k
  exact ⟨r, e, o, rfl⟩

theorem State.portOnly_quiet (s : State) : s.PortOnly s.quiet := .of_eq rfl

theorem State.portOnly_shiftReply (s : State) (n : Nat) : s.PortOnly (s.shiftReply n) := by
  unfold State.shiftReply
  split
  · exact .of_eq rfl
  · exact .of_eq rfl

theorem State.portOnly_frameEnds (s : State) (bytes : List Byte) (partialByte : Bool) :
    s.PortOnly (s.frameEnds bytes partialByte) := by
  unfold State.frameEnds
  split
  · exact .of_eq rfl
  · split
    · exact s.portOnly_shiftReply _
    · split
      · exact .of_eq rfl
      · split <;> exact .of_eq rfl

/-- Every happening of the management port changes what the port alone holds, or is so the action of one command. -/
theorem exec_management {c : Instr} {s u : State} (hc : c.isManagement = true) (h : exec c s = .next u) :
    s.PortOnly u ∨ ∃ cmd v, s.PortOnly v ∧ v.rstnLow = false ∧ ((actionOf cmd v).1).PortOnly u := by
  have completion (cmd : MgmtCommand) (hm : cmd ≠ .malformed 0) (e : exec cmd.completion s = .next u) :
      s.PortOnly u ∨ ∃ cmd v, s.PortOnly v ∧ v.rstnLow = false ∧ ((actionOf cmd v).1).PortOnly u := by
    rw [exec_completion cmd s hm] at e
    cases e
    rcases s.quiet.runCommand_cases cmd (actionOf cmd) with k | ⟨v, hv, hr, hu⟩
    · exact .inl (s.portOnly_quiet.trans k)
    · exact .inr ⟨cmd, v, s.portOnly_quiet.trans hv, hr, hu⟩
  cases c with
  | commandFrame bytes partialByte => cases h; exact .inl (s.portOnly_quiet.trans (State.portOnly_frameEnds _ _ _))
  | replyFrame n => cases h; exact .inl (s.portOnly_quiet.trans (State.portOnly_shiftReply _ _))
  | malformedFrame b =>
    by_cases hb : b = 0
    · rw [hb] at h
      cases h
      exact .inl s.portOnly_quiet
    · exact completion (.malformed b) (by simpa using hb) h
  | status => exact completion .status (by simp) h
  | configure c h' g o b e => exact completion (.configure c h' g o b e) (by simp) h
  | configRead => exact completion .configRead (by simp) h
  | regionWrite i v f l m e p => exact completion (.regionWrite i v f l m e p) (by simp) h
  | regionRead i => exact completion (.regionRead i) (by simp) h
  | lock f l k => exact completion (.lock f l k) (by simp) h
  | ceiling d v => exact completion (.ceiling d v) (by simp) h
  | blockQuery b => exact completion (.blockQuery b) (by simp) h
  | bufferQuery i => exact completion (.bufferQuery i) (by simp) h
  | dieQuery d => exact completion (.dieQuery d) (by simp) h
  | erase b => exact completion (.erase b) (by simp) h
  | flush c => exact completion (.flush c) (by simp) h
  | dieRestart d => exact completion (.dieRestart d) (by simp) h
  | faultRead => exact completion .faultRead (by simp) h
  | faultClear => exact completion .faultClear (by simp) h
  | completionRead => exact completion .completionRead (by simp) h
  | channelReset => exact completion .channelReset (by simp) h
  | _ => cases hc

theorem State.unlessBusy_fst (act : State → State × Answer) (s : State) :
    (State.unlessBusy act s).1 = s ∨ (State.unlessBusy act s).1 = (act s).1 := by
  unfold State.unlessBusy
  split
  · exact .inl rfl
  · exact .inr rfl

/-! ## Traffic -/

theorem State.keeps_setBuffers (s : State) (v : Vector Buffer 12) : s.Keeps { s with buffers := v } :=
  .of_eq rfl rfl rfl rfl

theorem State.keeps_leavePlace (s : State) (t : Tag) (r : Request) : s.Keeps (s.leavePlace t r) := by
  unfold State.leavePlace
  refine State.Keeps.trans ?_ (State.keeps_modifyDie _ _ _)
  refine State.Keeps.trans ?_ (State.keeps_modifyBlock _ _ _ fun _ => rfl)
  exact (s.keeps_setBuffers _).trans (State.keeps_leaveWait _ _)

theorem State.keeps_timeOut (s : State) (t : Tag) (r : Request) : s.Keeps (s.timeOut t r) := by
  have answered := (s.keeps_leavePlace t r).trans (State.keeps_answerPlain _ t .timeout)
  unfold State.timeOut
  dsimp only
  split
  · exact answered.trans (State.keeps_releaseReads _ _)
  · exact answered

theorem State.keeps_baseStep (i : BufIx) (s : State) (t : Tag) : s.Keeps (State.baseStep i s t) := by
  unfold State.baseStep
  split
  · exact s.keeps_judge _ _
  · split
    · exact s.keeps_answerRead _ _
    · exact .refl s

theorem State.keeps_baseArrival (s : State) (i : BufIx) (data : LineImage) : s.Keeps (s.baseArrival i data) := by
  unfold State.baseArrival
  split
  · dsimp only
    have done := fun b held => (s.keeps_setBuffer i b).trans (.foldl _ (State.keeps_baseStep i) held _)
    split
    · exact (done _ _).trans (State.keeps_postIfCaused _ _)
    · exact ((done _ _).trans (State.keeps_freeBuffer _ _)).trans (State.keeps_afterFree _)
  · exact .refl s

theorem State.keeps_deliver (s : State) (data : LineImage) (e : ReadEntry) : s.Keeps (s.deliver data e) := by
  unfold State.deliver
  split
  · exact s.keeps_baseArrival _ _
  · exact s.keeps_answerRead _ _
  · exact .refl s

theorem State.keeps_programPassed (s : State) (i : BufIx) : s.Keeps (s.programPassed i) :=
  (s.keeps_freeBuffer i).trans (State.keeps_afterFree _)

theorem State.keeps_lineLost (s : State) (i : BufIx) (l : LineAddr) (body : LineBody) : s.Keeps (s.lineLost i l body) := by
  unfold State.lineLost
  dsimp only
  refine State.Keeps.trans ?_ (State.keeps_afterFree _)
  refine State.Keeps.trans ?_ (State.keeps_freeBuffer _ _)
  refine State.Keeps.trans ?_ (State.keeps_discardAll _ _ _)
  exact (s.keeps_writeFault _).trans (State.keeps_modifyBlock _ _ _ fun _ => rfl)

theorem State.keeps_programFailed (s : State) (i : BufIx) : s.Keeps (s.programFailed i) := by
  unfold State.programFailed
  split
  · split
    · exact ((s.keeps_setBuffer _ _).trans (State.keeps_writeFault _ _)).trans (State.keeps_modifyDie _ _ _)
    · exact s.keeps_lineLost _ _ _
  · exact .refl s

/-- A block's erase has ended: its record keeps its lock, its marks end and its completion is recorded. -/
theorem State.keeps_endedErase (s : State) (g : GlobalBlock) (f : BlockRecord → BlockRecord)
    (hf : ∀ b, (f b).lock = b.lock) (c : Completion) :
    s.Keeps (((s.modifyBlock g f).clearMarks g).complete c) :=
  ((s.keeps_modifyBlock g f hf).trans (State.keeps_clearMarks _ _)).trans (State.keeps_complete _ _)

theorem State.keeps_erasePassed (s : State) (d : DieIx) (e : EraseOp) : s.Keeps (s.erasePassed d e) := by
  unfold State.erasePassed
  refine State.Keeps.trans ?_ (State.keeps_afterFree _)
  exact State.Keeps.trans (s.keeps_endedErase (globalBlock d e.block)
    (fun b => { b with health := .healthy, clean := true, erase := .none, holdList := [] }) (fun _ => rfl) _)
    (.foldl _ State.keeps_process _ _)

theorem State.keeps_eraseFailed (s : State) (d : DieIx) (e : EraseOp) : s.Keeps (s.eraseFailed d e) := by
  unfold State.eraseFailed
  refine State.Keeps.trans ?_ (.foldl _ (State.keeps_settleHeld .blockFailed) _ _)
  refine State.Keeps.trans ?_ (State.keeps_complete _ _)
  refine State.Keeps.trans ?_ (State.keeps_writeFault _ _)
  exact (s.keeps_modifyBlock _ (fun b => { b with health := .failed, clean := false, erase := .none, holdList := [] })
    fun _ => rfl).trans (State.keeps_clearMarks _ _)

/-- A request is presented on HREQ: it is not accepted, or answered by a port check, or outstanding from then on (R139 to
R141). -/
theorem State.acceptRequest_cases (s : State) (t : Tag) (a : BitVec 27) (p : Payload)
    (arrive : State → Tag → Request → State) :
    s.acceptRequest t a p arrive = s ∨
      (s.hrdy = true ∧ ∃ detail, s.acceptRequest t a p arrive = s.respond ⟨t, .fault detail, none⟩) ∨
      (s.hrdy = true ∧ s.request t = none ∧
        s.acceptRequest t a p arrive = arrive (s.setRequest t (some (s.accepted a p))) t (s.accepted a p)) := by
  unfold State.acceptRequest
  split
  · next hrdy =>
    split
    · exact .inr (.inl ⟨hrdy, _, rfl⟩)
    · next hp => exact .inr (.inr ⟨hrdy, s.request_none_of_portCheck t a _ hp, rfl⟩)
  · exact .inl rfl

/-- An accepted request is placed by operations of traffic. -/
theorem State.keeps_arrival (s : State) (t : Tag) (r : Request) (arrive : State → Tag → Request → State)
    (h : arrive = State.writeArrives ∨ arrive = State.readArrives) :
    (s.setRequest t (some r)).Keeps (arrive (s.setRequest t (some r)) t r) := by
  rcases h with rfl | rfl
  · exact State.keeps_writeArrives _ _ _ (by simp)
  · exact State.keeps_readArrives _ _ _

/-- What a request on HREQ can do (R138 to R141). -/
theorem exec_host {c : Instr} {s u : State}
    (hc : (∃ t a bs, c = .hostWrite t a bs) ∨ ∃ t a n, c = .hostRead t a n) (h : exec c s = .next u) :
    ∃ t a p arrive, (arrive = State.writeArrives ∨ arrive = State.readArrives) ∧
      u = s.quiet.acceptRequest t a p arrive := by
  have presented (q : HostRequestSignals) (e : u = s.quiet.present q) :
      ∃ t a p arrive, (arrive = State.writeArrives ∨ arrive = State.readArrives) ∧
        u = s.quiet.acceptRequest t a p arrive :=
    ⟨_, _, _, _, by split <;> simp, e⟩
  rcases hc with ⟨t, a, bs, rfl⟩ | ⟨t, a, n, rfl⟩
  · simp only [exec, execHostWrite] at h
    split at h
    · cases h; exact presented _ rfl
    · cases h
  · simp only [exec, execHostRead] at h
    split at h
    · cases h; exact presented _ rfl
    · cases h

/-- Traffic: a request on HREQ, the delivery of a response, or a happening that keeps what traffic keeps. -/
theorem exec_traffic {c : Instr} {s u : State} (hc : c.isTraffic = true) (h : exec c s = .next u) :
    s.Keeps u ∨ (∃ t a p arrive, (arrive = State.writeArrives ∨ arrive = State.readArrives) ∧
      u = s.quiet.acceptRequest t a p arrive) := by
  cases c with
  | hostWrite t a bs => exact .inr (exec_host (.inl ⟨t, a, bs, rfl⟩) h)
  | hostRead t a n => exact .inr (exec_host (.inr ⟨t, a, n, rfl⟩) h)
  | responseDelivery =>
    left
    simp only [exec, execResponseDelivery] at h
    split at h
    · cases h; exact s.keeps_quiet
    · next r rest hr =>
      cases h
      exact ⟨rfl, by simp [State.portLoad, State.outstandingCount, hr], fun t r' e => ⟨r', e, rfl⟩, id⟩
  | holdTimerExpiry t =>
    left
    simp only [exec, execHoldTimerExpiry] at h
    split at h
    · split at h
      · cases h
        exact ((s.keeps_quiet.trans (State.keeps_reach _ _)).trans (State.keeps_timeOut _ _ _)).trans
          (State.keeps_settle _)
      · cases h; exact s.keeps_quiet
    · cases h; exact s.keeps_quiet
  | coalesceTimerExpiry i =>
    left
    simp only [exec, execCoalesceTimerExpiry] at h
    split at h
    · cases h
      exact ((s.keeps_quiet.trans (State.keeps_reach _ _)).trans (State.keeps_post _ _)).trans (State.keeps_settle _)
    · cases h; exact s.keeps_quiet
  | lineData d data =>
    left
    simp only [exec, execLineData] at h
    split at h
    · cases h
      exact ((s.keeps_quiet.trans (State.keeps_modifyDie _ _ _)).trans (State.keeps_deliver _ _ _)).trans
        (State.keeps_settle _)
    · cases h; exact s.keeps_quiet
  | programEndPass d =>
    left
    simp only [exec, execProgramEndPass] at h
    split at h
    · cases h
      exact (((s.keeps_quiet.trans (State.keeps_modifyDie _ _ _)).trans (State.keeps_programPassed _ _)).trans
        (State.keeps_decideAtOnce _ _)).trans (State.keeps_settle _)
    · cases h; exact s.keeps_quiet
  | programEndFail d =>
    left
    simp only [exec, execProgramEndFail] at h
    split at h
    · cases h
      exact (((s.keeps_quiet.trans (State.keeps_modifyDie _ _ _)).trans (State.keeps_programFailed _ _)).trans
        (State.keeps_decideAtOnce _ _)).trans (State.keeps_settle _)
    · cases h; exact s.keeps_quiet
  | eraseEndPass d =>
    left
    simp only [exec, execEraseEndPass] at h
    split at h
    · cases h
      exact ((s.keeps_quiet.trans (State.keeps_modifyDie _ _ _)).trans (State.keeps_erasePassed _ _ _)).trans
        (State.keeps_settle _)
    · cases h; exact s.keeps_quiet
  | eraseEndFail d =>
    left
    simp only [exec, execEraseEndFail] at h
    split at h
    · cases h
      exact ((s.keeps_quiet.trans (State.keeps_modifyDie _ _ _)).trans (State.keeps_eraseFailed _ _ _)).trans
        (State.keeps_settle _)
    · cases h; exact s.keeps_quiet
  | halted d =>
    left
    simp only [exec, execHalted] at h
    split at h
    · cases h
      exact (s.keeps_quiet.trans (State.keeps_modifyDie _ _ _)).trans (State.keeps_settle _)
    · cases h; exact s.keeps_quiet
  | operationLimitExpiry d k =>
    left
    simp only [exec, execOperationLimitExpiry] at h
    split at h
    · cases h
      exact ((s.keeps_quiet.trans (State.keeps_reach _ _)).trans (State.keeps_goOffline _ _ _)).trans
        (State.keeps_settle _)
    · cases h; exact s.keeps_quiet
  | guardExpiry d =>
    left
    simp only [exec, execGuardExpiry] at h
    split at h
    · cases h
      exact ((s.keeps_quiet.trans (State.keeps_reach _ _)).trans (State.keeps_modifyDie _ _ _)).trans
        (State.keeps_arbitrate _ _)
    · cases h; exact s.keeps_quiet
  | holdOffExpiry d =>
    left
    simp only [exec, execHoldOffExpiry] at h
    split at h
    · cases h
      exact ((s.keeps_quiet.trans (State.keeps_reach _ _)).trans (State.keeps_modifyDie _ _ _)).trans
        (State.keeps_decide _ _)
    · cases h; exact s.keeps_quiet
  | _ => cases hc

/-- A request on HREQ keeps the setup of the part. -/
theorem State.acceptRequest_setup (s : State) (t : Tag) (a : BitVec 27) (p : Payload)
    (arrive : State → Tag → Request → State) (h : arrive = State.writeArrives ∨ arrive = State.readArrives) :
    (s.acceptRequest t a p arrive).setup = s.setup := by
  rcases s.acceptRequest_cases t a p arrive with e | ⟨-, detail, e⟩ | ⟨-, -, e⟩
  · rw [e]
  · rw [e]; rfl
  · rw [e, (s.keeps_arrival t _ arrive h).setup]; rfl

/-- Settles O60: a request on HREQ keeps the setup, and every other happening of traffic is made of operations that
keep it. -/
theorem trafficKeepsSetup : Obligations.TrafficKeepsSetup := by
  unfold Obligations.TrafficKeepsSetup
  intro c s u hc h
  rcases exec_traffic hc h with k | ⟨t, a, p, arrive, ha, rfl⟩
  · exact k.setup
  · exact s.quiet.acceptRequest_setup t a p arrive ha

end Sys2Proof.Machine
end

section
/-! The laws that traffic, the dies and the management port keep: what it takes to be one, and that every command but
those of the pins and resets keeps it. The laws of protection, of the region table, of the fault log, of the port's
room and of the order of acceptance are such laws. -/

namespace Sys2Proof

/-- The happenings of the pins: the resets and the changes of PROTN. -/
def Instr.isPin : Instr → Bool
  | .powerOn _ _ _ => true
  | .lineReset => true
  | .rstnRelease _ => true
  | .protnAssertion => true
  | .protnRelease => true
  | _ => false

/-- What is left beside the pins, traffic and the management port ends a die's reset. -/
theorem Instr.resets_of_other (c : Instr) (hp : c.isPin = false) (ht : c.isTraffic = false)
    (hm : c.isManagement = false) : (∃ d, c = .resetEnd d) ∨ ∃ d, c = .resetLimitExpiry d := by
  have other : (c.isPin || c.isTraffic || c.isManagement) = false := by simp [hp, ht, hm]
  cases c with
  | resetEnd d => exact .inl ⟨d, rfl⟩
  | resetLimitExpiry d => exact .inr ⟨d, rfl⟩
  | _ => cases other

end Sys2Proof

namespace Sys2Proof.Machine

open Sys2Proof

/-! ## Laws -/

/-- The ceiling may move to the value: upwards under an asserted PROTN level, downwards under a released one (R129). -/
def State.ceilingMayMove (s : State) (d : DieIx) (v : Fin 257) : Prop :=
  if s.protn then s.ceilings[d] ≤ v else v ≤ s.ceilings[d]

/-- A property of states that is kept by all that traffic keeps, that does not look at the time, the part mode, the
outputs, the port or the queue, and that the acceptance of requests, CONFIGURE, REGION_WRITE, LOCK and CEILING keep
under the conditions that these commands check. -/
structure Law (P : State → Prop) : Prop where
  free : ∀ s now mode out reply executing ticketCounter pending, P s →
    P { s with
      now := now, mode := mode, out := out, reply := reply, executing := executing, ticketCounter := ticketCounter
      pending := pending }
  keeps : ∀ s u, s.Keeps u → P s → P u
  respond : ∀ s r, s.hrdy = true → P s → P (s.respond r)
  accept : ∀ s t a p, s.hrdy = true → s.request t = none → P s → P (s.setRequest t (some (s.accepted a p)))
  settings : ∀ s c, P s → P { s with settings := c }
  regions : ∀ (s : State) (i : Fin 8) (e : RegionEntry), s.overlapsOther i e = false → P s → P { s with regions := s.regions.set i e }
  locks : ∀ (s : State) (f l : GlobalBlock) (k : Lock), ¬(k = .opened ∧ s.protn = true ∧ s.pinnedWithin f l = true) → P s → P (s.setLocks f l k)
  ceiling : ∀ (s : State) (d : DieIx) (v : Fin 257), s.rstnLow = false → s.fitted d = true → s.ceilingMayMove d v → P s → P (s.setCeiling d v)

section
variable {P : State → Prop} (hP : Law P)
include hP

theorem Law.portOnly {s u : State} (h : s.PortOnly u) (p : P s) : P u := by
  obtain ⟨reply, executing, out, rfl⟩ := h
  exact hP.free s s.now s.mode out reply executing s.ticketCounter s.pending p

theorem Law.setMode {s : State} (mode : PartMode) (p : P s) : P { s with mode := mode } :=
  hP.free s s.now mode s.out s.reply s.executing s.ticketCounter s.pending p

theorem Law.giveTicket {s : State} (t : Ticket) (p : P s) : P (s.giveTicket t) :=
  hP.free s s.now s.mode s.out s.reply s.executing (t + 1) s.pending p

theorem Law.endPhase {s : State} (p : P s) : P s.endPhase := by
  unfold State.endPhase
  split
  · exact p
  · exact hP.setMode _ p

/-- A request on HREQ: accepted below the port's bound, or answered below it, or not taken. -/
theorem Law.acceptRequest {s : State} (t : Tag) (a : BitVec 27) (q : Payload)
    (arrive : State → Tag → Request → State) (h : arrive = State.writeArrives ∨ arrive = State.readArrives) (p : P s) :
    P (s.acceptRequest t a q arrive) := by
  rcases s.acceptRequest_cases t a q arrive with e | ⟨hrdy, detail, e⟩ | ⟨hrdy, hnone, e⟩
  · rwa [e]
  · rw [e]; exact hP.respond s _ hrdy p
  · rw [e]; exact hP.keeps _ _ (s.keeps_arrival t _ arrive h) (hP.accept s t a q hrdy hnone p)

theorem Law.traffic {c : Instr} {s u : State} (hc : c.isTraffic = true) (h : exec c s = .next u) (p : P s) : P u := by
  rcases exec_traffic hc h with k | ⟨t, a, q, arrive, ha, rfl⟩
  · exact hP.keeps s u k p
  · exact hP.acceptRequest t a q arrive ha (hP.keeps s _ s.keeps_quiet p)

theorem Law.resetEnd {d : DieIx} {s u : State} (h : exec (.resetEnd d) s = .next u) (p : P s) : P u := by
  simp only [exec, execResetEnd] at h
  split at h
  · cases h
    exact hP.keeps _ _ (State.keeps_arbitrate _ _)
      (hP.endPhase (hP.keeps _ _ (s.keeps_quiet.trans (State.keeps_modifyDie _ _ _)) p))
  · cases h
    exact hP.keeps _ _ ((s.keeps_quiet.trans (State.keeps_setDie _ _ _)).trans (State.keeps_complete _ _)) p
  · cases h; exact hP.keeps _ _ s.keeps_quiet p

theorem Law.resetLimitExpiry {d : DieIx} {s u : State} (h : exec (.resetLimitExpiry d) s = .next u) (p : P s) :
    P u := by
  have recorded (due : Nat) (f : Die → Die) (b : FaultBody) :
      P (((s.quiet.reach due).modifyDie d f).writeFault b) :=
    hP.keeps _ _ (((s.keeps_quiet.trans (State.keeps_reach _ _)).trans (State.keeps_modifyDie _ _ _)).trans
      (State.keeps_writeFault _ _)) p
  simp only [exec, execResetLimitExpiry] at h
  split at h
  · cases h; exact hP.endPhase (recorded _ _ _)
  · cases h; exact hP.keeps _ _ (State.keeps_complete _ _) (recorded _ _ _)
  · cases h; exact hP.keeps _ _ s.keeps_quiet p

end

/-! ## The management commands -/

theorem State.keeps_postEach (q : Buffer → Bool) (fuel : Nat) (s : State) : s.Keeps (State.postEach q fuel s) := by
  induction fuel generalizing s with
  | zero => exact .refl s
  | succ n ih =>
    unfold State.postEach
    split
    · exact (s.keeps_post _).trans (ih _)
    · exact .refl s

theorem State.keeps_giveMarks (s : State) (g : GlobalBlock) : s.Keeps (s.giveMarks g) :=
  s.keeps_mapTable _ (by intro i r; split <;> cases r <;> rfl)

theorem State.keeps_admitErase (s : State) (g : GlobalBlock) (t : Ticket) :
    (s.giveTicket t).Keeps (s.admitErase g t) := by
  unfold State.admitErase
  dsimp only
  refine State.Keeps.trans ?_ (State.keeps_giveMarks _ _)
  refine State.Keeps.trans ?_ (State.keeps_postEach _ _ _)
  refine State.Keeps.trans ?_ (State.keeps_modifyDie _ _ _)
  exact State.keeps_modifyBlock _ _ _ fun _ => rfl

theorem State.keeps_admitFlush (s : State) (c : FlushScope) (t : Ticket) :
    (s.giveTicket t).Keeps (s.admitFlush c t) := by
  unfold State.admitFlush
  dsimp only
  refine State.Keeps.trans ?_ (State.keeps_completeFlushes _)
  refine State.Keeps.trans ?_ (State.keeps_postEach _ _ _)
  exact .of_eq rfl rfl rfl rfl

theorem State.keeps_resetDie (s : State) (d : DieIx) : s.Keeps (s.resetDie d) := by
  unfold State.resetDie
  split
  · exact s.keeps_setDie _ _
  · exact ((s.keeps_failUnfinished _).trans (State.keeps_setDie _ _ _)).trans (State.keeps_send _ _ _)

theorem State.keeps_resetDies (s : State) : s.Keeps s.resetDies := by
  unfold State.resetDies
  exact (State.Keeps.foldl _ State.keeps_resetDie _ s).trans (State.keeps_mapBlocks _ _ fun _ _ => rfl)

theorem State.keeps_cancelTickets (s : State) : s.Keeps s.cancelTickets := .of_eq rfl rfl rfl rfl

theorem State.keeps_discardedTraffic (s : State) : s.Keeps { s with
    buffers := Vector.replicate 12 .free, waitList := [] } := .of_eq rfl rfl rfl rfl

theorem State.keeps_faultRead (s : State) : s.Keeps s.faultRead.1 := by
  unfold State.faultRead
  split
  · exact .refl s
  · next r rest hr =>
    refine ⟨rfl, Nat.le_refl _, (State.Keeps.refl s).order, fun h => ?_⟩
    simp only [State.FaultLogLaw, hr, List.length_cons] at h ⊢
    omega

theorem State.keeps_faultClear (s : State) : s.Keeps s.faultClear.1 :=
  ⟨rfl, Nat.le_refl _, (State.Keeps.refl s).order, fun _ => Nat.zero_le _⟩

theorem State.keeps_completionRead (s : State) : s.Keeps s.completionRead.1 := by
  unfold State.completionRead
  split
  · exact .refl s
  · exact .of_eq rfl rfl rfl rfl

section
variable {P : State → Prop} (hP : Law P)
include hP

theorem Law.beginChannelReset {s : State} (p : P s) : P s.beginChannelReset := by
  unfold State.beginChannelReset State.clearTraffic
  have answered := hP.keeps _ _ (s.keeps_answerAll s.outstandingTags .aborted) p
  have discarded := hP.keeps _ _ (State.keeps_discardedTraffic _) (hP.setMode .resetting answered)
  exact hP.endPhase (hP.keeps _ _ (((State.keeps_writeFault _ _).trans (State.keeps_cancelTickets _)).trans
    (State.keeps_resetDies _)) discarded)

theorem Law.configure {s : State} (c h g : BitVec 16) (o b e : Byte) (p : P s) : P (State.configure c h g o b e s).1 := by
  unfold State.configure
  split
  · exact hP.settings s _ p
  · exact p

theorem Law.regionWrite {s : State} (i v : Byte) (f l : BitVec 16) (m e q : Byte) (p : P s) :
    P (State.regionWrite i v f l m e q s).1 := by
  unfold State.regionWrite
  split
  · split
    · exact p
    · next ho => exact hP.regions s _ _ (by simpa using ho) p
  · exact p

theorem Law.lock {s : State} (f l : BitVec 16) (k : Byte) (p : P s) : P (State.lock f l k s).1 := by
  unfold State.lock
  split
  · split
    · split
      · exact p
      · next hk => exact hP.locks s _ _ _ hk p
    · exact p
  · exact p

theorem Law.ceilingCommand {s : State} (d : Byte) (v : BitVec 16) (hr : s.rstnLow = false) (p : P s) :
    P (State.ceiling d v s).1 := by
  unfold State.ceiling
  split
  · exact p
  · split
    · next d v hd _ =>
      split
      · next hmove =>
        refine hP.ceiling s d v hr ?_ ?_ p
        · unfold State.fittedDie at hd
          split at hd
          · split at hd
            · next hf => cases hd; exact hf
            · cases hd
          · cases hd
        · unfold State.ceilingMayMove
          rcases hmove with ⟨hp, hle⟩ | ⟨hp, hle⟩
          · rw [if_pos hp]; exact hle
          · rw [if_neg (by simp [hp])]; exact hle
      · exact p
    · exact p

theorem Law.erase {s : State} (b : BitVec 16) (p : P s) : P (State.erase b s).1 := by
  unfold State.erase
  split
  · exact p
  · split
    · exact p
    · exact hP.keeps _ _ ((State.keeps_admitErase _ _ _).trans (State.keeps_settle _)) (hP.giveTicket _ p)

theorem Law.flush {s : State} (c : Byte) (p : P s) : P (State.flush c s).1 := by
  unfold State.flush
  split
  · exact p
  · split
    · exact p
    · exact hP.keeps _ _ ((State.keeps_admitFlush _ _ _).trans (State.keeps_settle _)) (hP.giveTicket _ p)

theorem Law.dieRestart {s : State} (d : Byte) (p : P s) : P (State.dieRestart d s).1 := by
  unfold State.dieRestart
  split
  · exact p
  · split
    · split
      · exact p
      · exact hP.keeps _ _ ((State.keeps_modifyDie _ _ _).trans (State.keeps_send _ _ _)) (hP.giveTicket _ p)
    · exact p
    · exact p

omit hP in
theorem unlessBusy_keeps {s : State} {act : State → State × Answer} (h : P (act s).1) (p : P s) :
    P (State.unlessBusy act s).1 := by
  rcases State.unlessBusy_fst act s with e | e <;> rwa [e]

theorem Law.action {s : State} (c : MgmtCommand) (hr : s.rstnLow = false) (p : P s) : P (actionOf c s).1 := by
  cases c with
  | configure c h g o b e => exact unlessBusy_keeps (hP.configure c h g o b e p) p
  | regionWrite i v f l m e q => exact unlessBusy_keeps (hP.regionWrite i v f l m e q p) p
  | lock f l k => exact unlessBusy_keeps (hP.lock f l k p) p
  | ceiling d v => exact hP.ceilingCommand d v hr p
  | erase b => exact unlessBusy_keeps (hP.erase b p) p
  | flush c => exact unlessBusy_keeps (hP.flush c p) p
  | dieRestart d => exact unlessBusy_keeps (hP.dieRestart d p) p
  | faultRead => exact hP.keeps _ _ s.keeps_faultRead p
  | faultClear => exact unlessBusy_keeps (hP.keeps _ _ s.keeps_faultClear p) p
  | completionRead => exact hP.keeps _ _ s.keeps_completionRead p
  | channelReset => exact unlessBusy_keeps (hP.beginChannelReset p) p
  | _ => exact p

/-- Every command but those of the pins keeps a law. -/
theorem Law.exec {c : Instr} {s u : State} (hc : c.isPin = false) (h : exec c s = .next u) (p : P s) : P u := by
  by_cases ht : c.isTraffic = true
  · exact hP.traffic ht h p
  by_cases hm : c.isManagement = true
  · rcases exec_management hm h with k | ⟨cmd, v, hv, hr, hu⟩
    · exact hP.portOnly k p
    · exact hP.portOnly hu (hP.action cmd hr (hP.portOnly hv p))
  rcases c.resets_of_other hc (by simpa using ht) (by simpa using hm) with ⟨d, rfl⟩ | ⟨d, rfl⟩
  · exact hP.resetEnd h p
  · exact hP.resetLimitExpiry h p

/-- A step keeps a law that the command at the front of the queue keeps. -/
theorem Law.step {s u : State} (h : step s = .next u)
    (pins : ∀ c v, c.isPin = true → Machine.exec c v = .next u → P v → P u) (p : P s) : P u := by
  unfold Machine.step at h
  split at h
  · cases h
    exact hP.free s (s.now + 1) s.mode Outputs.none s.reply s.executing s.ticketCounter _ p
  · next c rest _ =>
    have dequeued : P { s with pending := rest } :=
      hP.free s s.now s.mode s.out s.reply s.executing s.ticketCounter rest p
    by_cases hc : c.isPin = true
    · exact pins c _ hc h dequeued
    · exact hP.exec (by simpa using hc) h dequeued

end

end Sys2Proof.Machine
end

section
/-! The law of protection and the one way of the ceilings, the laws of the region table, the fault log and the host
port, and the law of the order of acceptance: each is a `Law`, and the pins keep it (chapters 2, 7, 8 and 10). -/

namespace Sys2Proof.Machine

open Sys2Proof

/-! ## Start-up -/

/-- RESET_DIE sent to several dies, in order. -/
theorem State.foldl_send (m : DieMessage) (ds : List DieIx) (s : State) :
    ds.foldl (fun s d => s.send d m) s =
      { s with out := { s.out with link := s.out.link ++ ds.map fun d => (d, m) } } := by
  induction ds generalizing s with
  | nil => simp
  | cons d ds ih => rw [List.foldl_cons, ih]; simp [State.send]

/-- Start-up changes the part mode, the die controllers and the outputs (R73). -/
theorem State.startUp_eq (s : State) :
    s.startUp = { s with
      mode := .starting, dies := startingDies s.fittedDies (some (s.now + Config.resetLimit))
      out := { s.out with link := s.out.link ++ s.fittedIndices.map fun d => (d, .resetDie) } } := by
  unfold State.startUp
  rw [State.foldl_send]

/-- The controller of each die position right after a reset (R71, R72). -/
theorem startingDies_getElem (fitted : Nat) (due : Option Nat) (d : DieIx) :
    (startingDies fitted due)[d] = Die.empty (if d.val < fitted then .starting due else .absent) := by
  simp only [startingDies, Fin.getElem_fin, getElem_mapIndexed, Vector.getElem_replicate]
  split <;> rfl

/-- What a pin's happening gives, so that a law over states is checked against each. -/
theorem exec_pin {c : Instr} {s u : State} (hc : c.isPin = true) (h : exec c s = .next u) :
    (∃ d p r, u = s.poweredOn d p r ∨ u = (s.poweredOn d p r).startUp) ∨
      u = { s.poweredOn s.dcount s.protnPin true with
        faultLog := s.faultLog, overflow := s.overflow, sequence := s.sequence, protn := s.protn } ∨
      (∃ d, s.rstnLow = true ∧
        u = { s.quiet with rstnLow := false, dcount := d, protn := s.protnPin }.startUp) ∨
      (s.rstnLow = false ∧ s.protn = false ∧ u = { s.quiet.shutPinned with protnPin := true, protn := true }) ∨
      (∃ pin, u = { s.quiet with protnPin := pin, protn := false }) ∨
      ∃ pin, u = { s.quiet with protnPin := pin } := by
  cases c with
  | powerOn d p r =>
    simp only [exec, execPowerOn] at h
    split at h <;> cases h
    · exact .inl ⟨d, p, true, .inl rfl⟩
    · exact .inl ⟨d, p, false, .inr rfl⟩
  | lineReset => cases h; exact .inr (.inl rfl)
  | rstnRelease d =>
    simp only [exec, execRstnRelease] at h
    split at h <;> cases h
    · next hr => exact .inr (.inr (.inl ⟨d, hr, rfl⟩))
    · exact .inr (.inr (.inr (.inr (.inr ⟨s.protnPin, rfl⟩))))
  | protnAssertion =>
    simp only [exec, execProtnAssertion] at h
    split at h <;> cases h
    · exact .inr (.inr (.inr (.inr (.inr ⟨true, rfl⟩))))
    · next hn =>
      obtain ⟨hr, hp⟩ := not_or.mp hn
      exact .inr (.inr (.inr (.inl ⟨by simpa using hr, by simpa using hp, rfl⟩)))
  | protnRelease =>
    simp only [exec, execProtnRelease] at h
    split at h <;> cases h
    · exact .inr (.inr (.inr (.inr (.inr ⟨false, rfl⟩))))
    · exact .inr (.inr (.inr (.inr (.inl ⟨false, rfl⟩))))
  | _ => cases hc

/-! ## The law of protection -/

theorem State.lock_of_setup {s u : State} (h : u.setup = s.setup) (g : GlobalBlock) :
    (u.block g).lock = (s.block g).lock := by
  have locks : u.blocks.toList.map BlockRecord.lock = s.blocks.toList.map BlockRecord.lock := congrArg Setup.locks h
  have entry := congrArg (fun l => l[g.val]?) locks
  simpa [State.block] using entry

/-- The law of protection looks at the locks, the ceilings and the levels of the pins alone. -/
theorem State.ProtnLaw.congr {s u : State} (l : s.ProtnLaw) (locks : ∀ g, (u.block g).lock = (s.block g).lock)
    (ceilings : u.ceilings = s.ceilings) (dcount : u.dcount = s.dcount) (protn : u.protn = true → s.protn = true)
    (rstn : u.rstnLow = s.rstnLow) : u.ProtnLaw := by
  obtain ⟨shut, absent, low⟩ := l
  refine ⟨fun hp g hg => ?_, fun d hd => ?_, fun hr d => ?_⟩
  · rw [locks]
    exact shut (protn hp) g (by simpa [State.pinned, ceilings] using hg)
  · rw [ceilings]
    exact absent d (by simpa [State.fitted, State.fittedDies, dcount] using hd)
  · rw [ceilings]
    exact low (by rwa [rstn] at hr) d

/-- With every ceiling at 0 no block is pinned (R126). -/
theorem State.protnLaw_of_ceilings_zero {s : State} (h : ∀ d : DieIx, s.ceilings[d] = 0) : s.ProtnLaw :=
  ⟨fun _ g hg => by simp [State.pinned, h] at hg, fun d _ => h d, fun _ d => h d⟩

/-- Every block of a range takes the lock state and no other block does (R128). -/
theorem State.block_setLocks (s : State) (f l : GlobalBlock) (k : Lock) (g : GlobalBlock) :
    (s.setLocks f l k).block g =
      if f.val ≤ g.val ∧ g.val ≤ l.val then { s.block g with lock := k } else s.block g := by
  simp [State.setLocks]

theorem State.pinnedWithin_iff (s : State) (f l : GlobalBlock) :
    s.pinnedWithin f l = true ↔ ∃ g : GlobalBlock, f.val ≤ g.val ∧ g.val ≤ l.val ∧ s.pinned g = true := by
  simp [State.pinnedWithin, and_assoc]

/-- The die position of a global block, as a quotient. -/
theorem dieOf_eq_iff (g : GlobalBlock) (d : DieIx) : dieOf g = d ↔ g.val / 256 = d.val := Fin.ext_iff

/-- A new ceiling shuts what it newly pins while PROTN is asserted (R130). -/
theorem State.block_setCeiling (s : State) (d : DieIx) (v : Fin 257) (g : GlobalBlock) :
    (s.setCeiling d v).block g =
      if s.protn = true ∧ dieOf g = d ∧ (s.ceilings[d]).val ≤ (blockOf g).val ∧ (blockOf g).val < v.val then
        { s.block g with lock := .shut }
      else s.block g := by
  unfold State.setCeiling
  by_cases hp : s.protn = true
  · simp only [hp, if_true, true_and, dieOf_eq_iff]
    exact s.block_mapBlocks _ g
  · simp only [hp, if_false, Bool.false_eq_true, false_and]
    rfl

theorem State.setCeiling_ceilings (s : State) (d : DieIx) (v : Fin 257) :
    (s.setCeiling d v).ceilings = s.ceilings.set d v := rfl

/-- All of the state but blocks and ceilings is as it was under a new ceiling. -/
theorem State.setCeiling_eq (s : State) (d : DieIx) (v : Fin 257) :
    s.setCeiling d v =
      { s with blocks := (s.setCeiling d v).blocks, ceilings := (s.setCeiling d v).ceilings } := by
  unfold State.setCeiling
  dsimp only
  split <;> rfl

theorem State.ceilings_setCeiling (s : State) (d e : DieIx) (v : Fin 257) :
    ((s.setCeiling d v).ceilings)[e] = if d = e then v else s.ceilings[e] := by
  simp [State.setCeiling_ceilings, Vector.getElem_set, Fin.ext_iff]

theorem State.ProtnLaw.setLocks {s : State} (l : s.ProtnLaw) (f e : GlobalBlock) (k : Lock)
    (h : ¬(k = .opened ∧ s.protn = true ∧ s.pinnedWithin f e = true)) : (s.setLocks f e k).ProtnLaw := by
  obtain ⟨shut, absent, low⟩ := l
  refine ⟨fun hp g hg => ?_, absent, low⟩
  rw [State.block_setLocks]
  split
  · next hin =>
    cases k with
    | shut => rfl
    | opened => exact absurd ⟨rfl, hp, (s.pinnedWithin_iff f e).mpr ⟨g, hin.1, hin.2, hg⟩⟩ h
  · exact shut hp g hg

theorem State.ProtnLaw.setCeiling {s : State} (l : s.ProtnLaw) (d : DieIx) (v : Fin 257) (hr : s.rstnLow = false)
    (hf : s.fitted d = true) : (s.setCeiling d v).ProtnLaw := by
  obtain ⟨shut, absent, low⟩ := l
  have same := s.setCeiling_eq d v
  refine ⟨fun hp g hg => ?_, fun e he => ?_, fun hr' => ?_⟩
  · have hp' : s.protn = true := by rw [same] at hp; exact hp
    rw [State.block_setCeiling]
    split
    · rfl
    · next hn =>
      refine shut hp' g ?_
      simp only [State.pinned, State.ceilings_setCeiling, decide_eq_true_eq] at hg ⊢
      by_cases hd : d = dieOf g
      · subst hd
        rw [if_pos rfl] at hg
        by_contra hle
        exact hn ⟨hp', rfl, by omega, hg⟩
      · rwa [if_neg hd] at hg
  · have hne : d ≠ e := by rintro rfl; rw [same] at he; exact absurd (hf.symm.trans he) (by simp)
    rw [State.ceilings_setCeiling, if_neg hne]
    exact absent e (by rw [same] at he; exact he)
  · rw [same] at hr'
    exact absurd (hr.symm.trans hr') (by simp)

/-- The blocks after an assertion of PROTN (R131). -/
theorem State.block_shutPinned (s : State) (g : GlobalBlock) :
    s.shutPinned.block g =
      if g.val / 256 < s.fittedDies ∧ (blockOf g).val < (s.ceilings[dieOf g]).val then
        { s.block g with lock := .shut }
      else s.block g := by
  have hd : Fin.ofNat 4 (g.val / 256) = dieOf g := by
    apply Fin.ext
    simp only [Fin.val_ofNat, dieOf]
    omega
  simp only [State.shutPinned, State.block_mapBlocks, State.ceilingOver, hd]
  rfl

theorem State.ProtnLaw.shutPinned {s : State} (l : s.ProtnLaw) (hr : s.rstnLow = false) (pin : Bool) :
    { s.quiet.shutPinned with protnPin := pin, protn := true }.ProtnLaw := by
  obtain ⟨-, absent, -⟩ := l
  refine ⟨fun _ g hg => ?_, absent, fun hr' => absurd (hr.symm.trans hr') (by simp)⟩
  have hg : s.pinned g = true := hg
  have fitted : g.val / 256 < s.fittedDies := by
    by_contra hn
    have zero := absent (dieOf g) (decide_eq_false hn)
    simp [State.pinned, zero] at hg
  have below : (blockOf g).val < (s.ceilings[dieOf g]).val := by simpa [State.pinned] using hg
  exact (congrArg BlockRecord.lock (s.quiet.block_shutPinned g)).trans (by
    simp only [State.quiet_ceilings, show s.quiet.fittedDies = s.fittedDies from rfl, fitted, below, and_self, if_true])

theorem law_protn : Law State.ProtnLaw where
  free _ _ _ _ _ _ _ _ h := h
  keeps _ _ k h :=
    have e := k.setup
    h.congr (State.lock_of_setup e) (congrArg Setup.ceilings e) (congrArg Setup.dcount e)
      (fun hp => (congrArg Setup.protn e).symm.trans hp) (congrArg Setup.rstnLow e)
  respond _ _ _ h := h
  accept _ _ _ _ _ _ h := h
  settings _ _ h := h
  regions _ _ _ _ h := h
  locks _ f l k hk h := h.setLocks f l k hk
  ceiling _ d v hr hf _ h := h.setCeiling d v hr hf

theorem protnLaw_of_pin {c : Instr} {s u : State} (hc : c.isPin = true) (h : exec c s = .next u) (l : s.ProtnLaw) :
    u.ProtnLaw := by
  have zero (d : DieIx) : (Vector.replicate 4 (0 : Fin 257))[d] = 0 := by simp
  rcases exec_pin hc h with ⟨d, p, r, rfl | rfl⟩ | rfl | ⟨d, hr, rfl⟩ | ⟨hr, -, rfl⟩ | ⟨pin, rfl⟩ | ⟨pin, rfl⟩
  · exact State.protnLaw_of_ceilings_zero zero
  · rw [State.startUp_eq]; exact State.protnLaw_of_ceilings_zero zero
  · exact State.protnLaw_of_ceilings_zero zero
  · rw [State.startUp_eq]; exact State.protnLaw_of_ceilings_zero (l.2.2 hr)
  · exact l.shutPinned hr true
  · exact l.congr (fun _ => rfl) rfl rfl (fun hp => by cases hp) rfl
  · exact l

/-! ## The one way of the ceilings -/

/-- The state `u` has the recorded PROTN level of `s`, and its ceilings have moved only the way that level allows
(R129). -/
def State.CeilingsOneWay (s u : State) : Prop :=
  u.protn = s.protn ∧ ∀ d : DieIx,
    (s.protn = true → s.ceilings[d] ≤ u.ceilings[d]) ∧ (s.protn = false → u.ceilings[d] ≤ s.ceilings[d])

theorem State.CeilingsOneWay.refl (s : State) : s.CeilingsOneWay s :=
  ⟨rfl, fun _ => ⟨fun _ => le_rfl, fun _ => le_rfl⟩⟩

theorem State.CeilingsOneWay.setCeiling {s u : State} (h : s.CeilingsOneWay u) (d : DieIx) (v : Fin 257)
    (hmove : u.ceilingMayMove d v) : s.CeilingsOneWay (u.setCeiling d v) := by
  obtain ⟨hp, hc⟩ := h
  refine ⟨by rw [u.setCeiling_eq d v]; exact hp, fun e => ?_⟩
  rw [State.ceilings_setCeiling]
  unfold State.ceilingMayMove at hmove
  split
  · next hd =>
    subst hd
    refine ⟨fun hs => ((hc d).1 hs).trans ?_, fun hs => le_trans ?_ ((hc d).2 hs)⟩
    · rwa [if_pos (hp.trans hs)] at hmove
    · rwa [if_neg (by simp [hp.trans hs])] at hmove
  · exact hc e

theorem law_ceilingsOneWay (s : State) : Law s.CeilingsOneWay where
  free _ _ _ _ _ _ _ _ h := h
  keeps v u k h := by
    obtain ⟨hp, hc⟩ := h
    have ceilings : u.ceilings = v.ceilings := congrArg Setup.ceilings k.setup
    exact ⟨(congrArg Setup.protn k.setup).trans hp, by rw [ceilings]; exact hc⟩
  respond _ _ _ h := h
  accept _ _ _ _ _ _ h := h
  settings _ _ h := h
  regions _ _ _ _ h := h
  locks _ _ _ _ _ h := h
  ceiling _ d v _ _ hmove h := h.setCeiling d v hmove

/-- No pin's happening but POWER_ON and LINE_RESET changes a ceiling. -/
theorem ceilings_of_pin {c : Instr} {s u : State} (hc : c.isPin = true) (hz : c.zeroesCeilings = false)
    (h : exec c s = .next u) : u.ceilings = s.ceilings := by
  cases c with
  | rstnRelease d =>
    simp only [exec, execRstnRelease] at h
    split at h <;> cases h
    · rw [State.startUp_eq]; rfl
    · rfl
  | protnAssertion =>
    simp only [exec, execProtnAssertion] at h
    split at h <;> cases h <;> rfl
  | protnRelease =>
    simp only [exec, execProtnRelease] at h
    split at h <;> cases h <;> rfl
  | powerOn d p r => cases hz
  | lineReset => cases hz
  | _ => cases hc

theorem step_ceilings {s u : State} (h : step s = .next u)
    (hz : ∀ c rest, s.pending = c :: rest → c.zeroesCeilings = false) (d : DieIx) :
    (s.protn = true → s.ceilings[d] ≤ u.ceilings[d]) ∧ (s.protn = false → u.ceilings[d] ≤ s.ceilings[d]) := by
  unfold step at h
  split at h
  · cases h
    exact (State.CeilingsOneWay.refl s).2 d
  · next c rest hq =>
    by_cases hc : c.isPin = true
    · rw [show u.ceilings = s.ceilings from ceilings_of_pin (s := { s with pending := rest }) hc (hz c rest hq) h]
      exact (State.CeilingsOneWay.refl s).2 d
    · exact ((law_ceilingsOneWay s).exec (by simpa using hc) h (State.CeilingsOneWay.refl s)).2 d

/-- Settles O57: the law of protection is a `Law` that every pin's happening keeps, and between the two resets of the
ceilings only CEILING moves one, the way it checks. -/
theorem protnLawKept : Obligations.ProtnLawKept := by
  unfold Obligations.ProtnLawKept
  intro s u h
  exact ⟨law_protn.step h fun c v hc hv l => protnLaw_of_pin hc hv l, fun hz d => step_ceilings h hz d⟩

/-! ## The region table, the fault log and the host port -/

theorem State.overlaps_of_contains {a b : RegionEntry} {g : GlobalBlock} (ha : a.contains g = true)
    (hb : b.contains g = true) : a.valid = true ∧ b.valid = true ∧ a.overlaps b = true := by
  simp only [RegionEntry.contains, Bool.and_eq_true, decide_eq_true_eq] at ha hb
  obtain ⟨⟨hva, hfa⟩, hla⟩ := ha
  obtain ⟨⟨hvb, hfb⟩, hlb⟩ := hb
  refine ⟨hva, hvb, ?_⟩
  simp only [RegionEntry.overlaps, Bool.and_eq_true, decide_eq_true_eq]
  omega

theorem State.RegionLaw.write {s : State} (l : s.RegionLaw) (i : Fin 8) (e : RegionEntry)
    (ho : s.overlapsOther i e = false) : { s with regions := s.regions.set i e }.RegionLaw := by
  have apart (j : Fin 8) (hj : i ≠ j) (g : GlobalBlock) : ¬(e.contains g = true ∧ (s.regions[j]).contains g = true) := by
    rintro ⟨he, hg⟩
    obtain ⟨hv, hvj, hover⟩ := State.overlaps_of_contains he hg
    have : s.overlapsOther i e = true := by
      simp only [State.overlapsOther, hv, Bool.true_and, List.any_eq_true, List.mem_finRange, true_and,
        Bool.and_eq_true, bne_iff_ne]
      exact ⟨j, ⟨Ne.symm hj, hvj⟩, hover⟩
    rw [ho] at this
    cases this
  have entry (j : Fin 8) : (s.regions.set i e)[j] = if i = j then e else s.regions[j] := by
    simp [Vector.getElem_set, Fin.ext_iff]
  intro j k hjk g
  simp only [entry]
  split <;> split
  · next hj hk => exact absurd (hj.symm.trans hk) hjk
  · next hj hk => exact apart k hk g
  · next hj hk => exact fun h => apart j hj g h.symm
  · exact l j k hjk g

theorem law_region : Law State.RegionLaw where
  free _ _ _ _ _ _ _ _ h := h
  keeps s u k h := by
    have e : u.regions = s.regions := congrArg Setup.regions k.setup
    unfold State.RegionLaw
    rw [e]
    exact h
  respond _ _ _ h := h
  accept _ _ _ _ _ _ h := h
  settings _ _ h := h
  regions _ i e ho h := h.write i e ho
  locks _ _ _ _ _ h := h
  ceiling s d v _ _ _ h := by rw [s.setCeiling_eq d v]; exact h

/-- No entry of the table after a reset is valid (R30). -/
theorem regionLaw_initial {s : State} (h : s.regions = Vector.replicate 8 RegionEntry.initial) : s.RegionLaw := by
  intro i j _ g hg
  simp [h, RegionEntry.contains, RegionEntry.initial] at hg

theorem regionLaw_of_pin {c : Instr} {s u : State} (hc : c.isPin = true) (h : exec c s = .next u) (l : s.RegionLaw) :
    u.RegionLaw := by
  rcases exec_pin hc h with ⟨d, p, r, rfl | rfl⟩ | rfl | ⟨d, -, rfl⟩ | ⟨-, -, rfl⟩ | ⟨pin, rfl⟩ | ⟨pin, rfl⟩
  · exact regionLaw_initial rfl
  · rw [State.startUp_eq]; exact regionLaw_initial rfl
  · exact regionLaw_initial rfl
  · rw [State.startUp_eq]; exact l
  · exact l
  · exact l
  · exact l

theorem law_faultLog : Law State.FaultLogLaw where
  free _ _ _ _ _ _ _ _ h := h
  keeps _ _ k h := k.log h
  respond _ _ _ h := h
  accept _ _ _ _ _ _ h := h
  settings _ _ h := h
  regions _ _ _ _ h := h
  locks _ _ _ _ _ h := h
  ceiling s d v _ _ _ h := by rw [s.setCeiling_eq d v]; exact h

theorem faultLogLaw_of_pin {c : Instr} {s u : State} (hc : c.isPin = true) (h : exec c s = .next u)
    (l : s.FaultLogLaw) : u.FaultLogLaw := by
  rcases exec_pin hc h with ⟨d, p, r, rfl | rfl⟩ | rfl | ⟨d, -, rfl⟩ | ⟨-, -, rfl⟩ | ⟨pin, rfl⟩ | ⟨pin, rfl⟩
  · exact Nat.zero_le _
  · rw [State.startUp_eq]; exact Nat.zero_le _
  · exact l
  · rw [State.startUp_eq]; exact l
  · exact l
  · exact l
  · exact l

theorem State.portLoad_lt_of_hrdy {s : State} (h : s.hrdy = true) : s.portLoad < 16 := by
  simp only [State.hrdy, Bool.and_eq_true, decide_eq_true_eq] at h
  exact h.2

theorem law_port : Law State.PortLaw where
  free _ _ _ _ _ _ _ _ h := h
  keeps _ _ k h := Nat.le_trans k.load h
  respond s r hrdy _ := by
    have room := State.portLoad_lt_of_hrdy hrdy
    have count : (s.respond r).outstandingCount = s.outstandingCount := rfl
    simp only [State.PortLaw, State.portLoad, State.respond_responses, List.length_append, List.length_singleton,
      count] at room ⊢
    omega
  accept s t a p hrdy hnone _ := by
    have room := State.portLoad_lt_of_hrdy hrdy
    have count := s.outstandingCount_setRequest t (some (s.accepted a p))
    simp only [hnone, Option.isSome_none, Option.isSome_some, if_true, if_false, Bool.false_eq_true] at count
    simp only [State.PortLaw, State.portLoad, State.setRequest_responses] at room ⊢
    omega
  settings _ _ h := h
  regions _ _ _ _ h := h
  locks _ _ _ _ _ h := h
  ceiling s d v _ _ _ h := by rw [s.setCeiling_eq d v]; exact h

/-- An empty table and an empty response list load the port with nothing. -/
theorem portLaw_empty {s : State} (ht : s.table = Vector.replicate 16 none) (hr : s.responses = []) : s.PortLaw := by
  simp only [State.PortLaw, State.portLoad, State.outstandingCount, ht, hr]
  decide

theorem portLaw_of_pin {c : Instr} {s u : State} (hc : c.isPin = true) (h : exec c s = .next u) (l : s.PortLaw) :
    u.PortLaw := by
  rcases exec_pin hc h with ⟨d, p, r, rfl | rfl⟩ | rfl | ⟨d, -, rfl⟩ | ⟨-, -, rfl⟩ | ⟨pin, rfl⟩ | ⟨pin, rfl⟩
  · exact portLaw_empty rfl rfl
  · rw [State.startUp_eq]; exact portLaw_empty rfl rfl
  · exact portLaw_empty rfl rfl
  · rw [State.startUp_eq]; exact l
  · exact l
  · exact l
  · exact l

theorem law_order : Law State.OrderLaw where
  free _ _ _ _ _ _ _ _ h := h
  keeps _ _ k h := k.orderLaw h
  respond _ _ _ h := h
  accept _ t a p _ _ h := h.accepted t a p
  settings _ _ h := h
  regions _ _ _ _ h := h
  locks _ _ _ _ _ h := h
  ceiling s d v _ _ _ h := by rw [s.setCeiling_eq d v]; exact h

theorem orderLaw_empty {s : State} (ht : s.table = Vector.replicate 16 none) : s.OrderLaw := by
  intro t t' r r' hr
  simp [State.request, ht] at hr

theorem orderLaw_of_pin {c : Instr} {s u : State} (hc : c.isPin = true) (h : exec c s = .next u) (l : s.OrderLaw) :
    u.OrderLaw := by
  rcases exec_pin hc h with ⟨d, p, r, rfl | rfl⟩ | rfl | ⟨d, -, rfl⟩ | ⟨-, -, rfl⟩ | ⟨pin, rfl⟩ | ⟨pin, rfl⟩
  · exact orderLaw_empty rfl
  · rw [State.startUp_eq]; exact orderLaw_empty rfl
  · exact orderLaw_empty rfl
  · rw [State.startUp_eq]; exact l
  · exact l
  · exact l
  · exact l

end Sys2Proof.Machine
end

section
/-! What the operations of the pool and of its lists keep: the law of the line buffers, and of each die its state, its
halt context and its queued erases, so that no ticket is given or taken (R4, R78, R160). -/

namespace Sys2Proof.Machine

open Sys2Proof

/-! ## The part of the pool its law looks at -/

/-- What the law of the line buffers looks at in a buffer: its line, its link, and whether it is PROGRAMMING. -/
def Buffer.shape (b : Buffer) : Option LineAddr × Option BufIx × Bool := (b.line?, b.predecessor?, b.isProgramming)

theorem Buffer.shape_eq_iff (a b : Buffer) : a.shape = b.shape ↔
    a.line? = b.line? ∧ a.predecessor? = b.predecessor? ∧ a.isProgramming = b.isProgramming := by
  simp [Buffer.shape]

/-- The law of the line buffers looks at nothing but the shapes. -/
theorem State.PoolLaw.congr {s u : State} (l : s.PoolLaw) (h : ∀ i, (u.buffer i).shape = (s.buffer i).shape) :
    u.PoolLaw := by
  simp only [Buffer.shape_eq_iff] at h
  unfold State.PoolLaw at l ⊢
  simpa only [h] using l

/-- A buffer that links to another is not PROGRAMMING. -/
theorem Buffer.isProgramming_of_predecessor {b : Buffer} {p : BufIx} (h : b.predecessor? = some p) :
    b.isProgramming = false := by
  cases b <;> first | rfl | cases h

theorem Buffer.line?_eq_none_iff (b : Buffer) : b.line? = none ↔ b = .free := by
  cases b <;> simp [Buffer.line?]

@[simp] theorem Buffer.line?_unlink (b : Buffer) (i : BufIx) : (b.unlink i).line? = b.line? := by cases b <;> rfl

@[simp] theorem Buffer.isProgramming_unlink (b : Buffer) (i : BufIx) :
    (b.unlink i).isProgramming = b.isProgramming := by
  cases b <;> rfl

@[simp] theorem Buffer.predecessor?_unlink (b : Buffer) (i : BufIx) :
    (b.unlink i).predecessor? = if b.predecessor? = some i then none else b.predecessor? := by
  cases b <;> simp [Buffer.unlink, Buffer.predecessor?] <;> rfl

@[simp] theorem Buffer.line?_free : Buffer.free.line? = none := rfl

@[simp] theorem Buffer.predecessor?_free : Buffer.free.predecessor? = none := rfl

theorem State.buffer_freeBuffer (s : State) (i j : BufIx) :
    (s.freeBuffer i).buffer j = if j = i then .free else (s.buffer j).unlink i := by
  simp only [State.freeBuffer, State.buffer, Fin.getElem_fin, getElem_mapIndexed, Fin.ext_iff]

/-- Freeing a buffer keeps the law: what linked to it has lost the link (R18). -/
theorem State.PoolLaw.freeBuffer {s : State} (l : s.PoolLaw) (i : BufIx) : (s.freeBuffer i).PoolLaw := by
  obtain ⟨pairs, links⟩ := l
  simp only [State.PoolLaw, State.buffer_freeBuffer]
  refine ⟨fun j k hjk hj he => ?_, fun j p hp => ?_⟩
  · by_cases hji : j = i
    · simp [hji] at hj
    by_cases hki : k = i
    · rw [if_pos hki] at he
      exact absurd he hj
    simp only [hji, hki, if_false, Buffer.line?_unlink, Buffer.isProgramming_unlink, Buffer.predecessor?_unlink]
      at hj he ⊢
    rcases pairs j k hjk hj he with ⟨hprog, hlink⟩ | ⟨hprog, hlink⟩
    · exact .inl ⟨hprog, by simp [hlink, hji]⟩
    · exact .inr ⟨hprog, by simp [hlink, hki]⟩
  · by_cases hji : j = i
    · simp [hji, Buffer.predecessor?] at hp
    simp only [hji, if_false, Buffer.predecessor?_unlink] at hp ⊢
    split at hp
    · cases hp
    · next hne =>
      have hpi : p ≠ i := by rintro rfl; exact hne hp
      simpa [hpi] using links j p hp

/-- A buffer of a new line opens where it was FREE: unlinked on a line that no buffer holds, or linked to the PROGRAMMING
buffer that alone holds its line (R4). -/
theorem State.PoolLaw.opens {s : State} (l : s.PoolLaw) {i : BufIx} {b : Buffer} {line : LineAddr}
    (hfree : s.buffer i = .free) (hb : b.line? = some line)
    (alone : ∀ j, (s.buffer j).line? = some line → (s.buffer j).isProgramming = true ∧ b.predecessor? = some j)
    (link : ∀ p, b.predecessor? = some p → (s.buffer p).isProgramming = true ∧ (s.buffer p).line? = some line) :
    (s.setBuffer i b).PoolLaw := by
  obtain ⟨pairs, links⟩ := l
  have vacant (j : BufIx) (h : (s.buffer j).isProgramming = true) : i ≠ j := by
    rintro rfl; simp [hfree, Buffer.isProgramming] at h
  simp only [State.PoolLaw, State.buffer_setBuffer]
  refine ⟨fun j k hjk hj he => ?_, fun j p hjp => ?_⟩
  · by_cases hij : i = j
    · have hik : i ≠ k := by rintro rfl; exact hjk hij.symm
      simp only [hij, if_true, if_neg (hij ▸ hik), hb] at he hj ⊢
      exact .inr (alone k he.symm)
    · by_cases hik : i = k
      · subst hik
        simp only [if_true, if_neg hij, hb] at he hj ⊢
        exact .inl (alone j he)
      · simp only [if_neg hij, if_neg hik] at he hj ⊢
        exact pairs j k hjk hj he
  · by_cases hij : i = j
    · subst hij
      simp only [if_true] at hjp ⊢
      obtain ⟨hprog, hline⟩ := link p hjp
      simp [vacant p hprog, hprog, hline, hb]
    · simp only [if_neg hij] at hjp ⊢
      obtain ⟨hprog, hline⟩ := links j p hjp
      simpa [vacant p hprog, hprog] using hline

/-- A POSTED buffer without a link, whose program starts, holds its line alone (R80). -/
theorem State.PoolLaw.starts {s : State} (l : s.PoolLaw) {i : BufIx} (hn : (s.buffer i).predecessor? = none) :
    (s.setBuffer i (s.buffer i).started).PoolLaw := by
  cases hb : s.buffer i with
  | posted line n body p =>
    obtain ⟨pairs, links⟩ := l
    have hp : p = none := by simpa [hb, Buffer.predecessor?] using hn
    have unprogrammed (j : BufIx) (h : (s.buffer j).isProgramming = true) : i ≠ j := by
      rintro rfl; simp [hb, Buffer.isProgramming] at h
    have alone (j : BufIx) (hij : i ≠ j) : (s.buffer j).line? ≠ some line := by
      intro hj
      rcases pairs i j hij (by simp [hb, Buffer.line?]) (by rw [hj, hb]; rfl) with ⟨h, -⟩ | ⟨-, h⟩
      · simp [hb, Buffer.isProgramming] at h
      · simp [hb, hp, Buffer.predecessor?] at h
    simp only [State.PoolLaw, State.buffer_setBuffer, Buffer.started]
    refine ⟨fun j k hjk hj he => ?_, fun j q hjq => ?_⟩
    · by_cases hij : i = j
      · have hik : i ≠ k := by rintro rfl; exact hjk hij.symm
        simp only [hij, if_true, if_neg (hij ▸ hik), Buffer.line?] at he
        exact absurd he.symm (alone k hik)
      · by_cases hik : i = k
        · simp only [hik, if_true, if_neg (hik ▸ hij), Buffer.line?] at he
          exact absurd he (alone j hij)
        · simp only [if_neg hij, if_neg hik] at he hj ⊢
          exact pairs j k hjk hj he
    · by_cases hij : i = j
      · rw [if_pos hij] at hjq
        cases hjq
      · simp only [if_neg hij] at hjq ⊢
        obtain ⟨hprog, hline⟩ := links j q hjq
        simpa [unprogrammed q hprog, hprog] using hline
  | _ =>
    refine l.congr fun j => ?_
    rw [State.buffer_setBuffer]
    split
    · next h => rw [← h, hb]; rfl
    · rfl

/-! ## Operations of the pool -/

/-- The state `u` is reached from `s` by operations of the pool and of the lists of requests: the law of the line
buffers is kept, and of every die the state, the halt context and the queued erases stand, as do the tickets of
flushes and the completion list. -/
structure State.PoolStep (s u : State) : Prop where
  pool : s.PoolLaw → u.PoolLaw
  state : ∀ d, (u.die d).state = (s.die d).state
  context : ∀ d, (u.die d).context = (s.die d).context
  erases : ∀ d, (u.die d).queuedErases = (s.die d).queuedErases
  flushes : u.flushes.map FlushRecord.ticket = s.flushes.map FlushRecord.ticket
  completions : u.completions = s.completions

theorem State.PoolStep.refl (s : State) : s.PoolStep s := ⟨id, fun _ => rfl, fun _ => rfl, fun _ => rfl, rfl, rfl⟩

theorem State.PoolStep.trans {s u v : State} (h : s.PoolStep u) (k : u.PoolStep v) : s.PoolStep v where
  pool l := k.pool (h.pool l)
  state d := (k.state d).trans (h.state d)
  context d := (k.context d).trans (h.context d)
  erases d := (k.erases d).trans (h.erases d)
  flushes := k.flushes.trans h.flushes
  completions := k.completions.trans h.completions

theorem State.PoolStep.foldl {α : Type} (f : State → α → State) (hf : ∀ (s : State) (a : α), s.PoolStep (f s a))
    (l : List α) (s : State) : s.PoolStep (l.foldl f s) := by
  induction l generalizing s with
  | nil => exact .refl s
  | cons a l ih => exact (hf s a).trans (ih _)

/-- An update of requests, blocks, logs, time or outputs alone. -/
theorem State.PoolStep.of_eq {s u : State} (buffers : u.buffers = s.buffers) (dies : u.dies = s.dies)
    (flushes : u.flushes = s.flushes) (completions : u.completions = s.completions) : s.PoolStep u where
  pool l := l.congr fun i => by simp [State.buffer, buffers]
  state d := by simp [State.die, dies]
  context d := by simp [State.die, dies]
  erases d := by simp [State.die, dies]
  flushes := by rw [flushes]
  completions := completions

/-- An update of the buffers alone that keeps the law. -/
theorem State.poolStep_buffers (s : State) (v : Vector Buffer 12)
    (h : s.PoolLaw → State.PoolLaw { s with buffers := v }) : s.PoolStep { s with buffers := v } where
  pool := h
  state _ := rfl
  context _ := rfl
  erases _ := rfl
  flushes := rfl
  completions := rfl

/-- A buffer rewritten without a change of its shape. -/
theorem State.poolStep_setBuffer (s : State) (i : BufIx) (b : Buffer) (h : b.shape = (s.buffer i).shape) :
    s.PoolStep (s.setBuffer i b) :=
  s.poolStep_buffers _ fun l => State.PoolLaw.congr (u := s.setBuffer i b) l fun j => by
    rw [State.buffer_setBuffer]
    split
    · next e => rw [h, e]
    · rfl

/-- A die controller whose queues alone are rewritten, without a change of the erases queued. -/
theorem State.poolStep_modifyDie (s : State) (d : DieIx) (f : Die → Die) (state : ∀ x, (f x).state = x.state)
    (context : ∀ x, (f x).context = x.context) (erases : ∀ x, (f x).queuedErases = x.queuedErases) :
    s.PoolStep (s.modifyDie d f) where
  pool := id
  state e := by simp only [State.die_modifyDie]; split <;> simp [*]
  context e := by simp only [State.die_modifyDie]; split <;> simp [*]
  erases e := by simp only [State.die_modifyDie]; split <;> simp [*]
  flushes := rfl
  completions := rfl

theorem State.poolStep_setReads (s : State) (d : DieIx) (f : Die → List ReadEntry) :
    s.PoolStep (s.modifyDie d fun x => { x with readQueue := f x }) :=
  s.poolStep_modifyDie d _ (fun _ => rfl) (fun _ => rfl) fun _ => rfl

/-! ### Requests, blocks and logs -/

theorem State.poolStep_setRequest (s : State) (t : Tag) (r : Option Request) : s.PoolStep (s.setRequest t r) :=
  .of_eq rfl rfl rfl rfl

theorem State.poolStep_answer (s : State) (t : Tag) (c : RespCode) (data : Option (List Byte)) :
    s.PoolStep (s.answer t c data) := by
  unfold State.answer
  split
  · exact .refl s
  · exact .of_eq rfl rfl rfl rfl

theorem State.poolStep_answerPlain (s : State) (t : Tag) (c : RespCode) : s.PoolStep (s.answerPlain t c) :=
  s.poolStep_answer t c none

theorem State.poolStep_answerAll (s : State) (ts : List Tag) (c : RespCode) : s.PoolStep (s.answerAll ts c) :=
  .foldl _ (fun s t => s.poolStep_answerPlain t c) ts s

theorem State.poolStep_answerRead (s : State) (t : Tag) (line : LineImage) : s.PoolStep (s.answerRead t line) := by
  unfold State.answerRead
  split
  · exact s.poolStep_answer ..
  · exact .refl s

theorem State.poolStep_modifyBlock (s : State) (g : GlobalBlock) (f : BlockRecord → BlockRecord) :
    s.PoolStep (s.modifyBlock g f) :=
  .of_eq rfl rfl rfl rfl

theorem State.poolStep_writeFault (s : State) (b : FaultBody) : s.PoolStep (s.writeFault b) := by
  unfold State.writeFault
  split <;> exact .of_eq rfl rfl rfl rfl

/-! ### Buffers -/

theorem Die.queuedErases_append_program (x : Die) (i : BufIx) :
    Die.queuedErases { x with workQueue := x.workQueue ++ [.program i] } = x.queuedErases := by
  simp [Die.queuedErases]

theorem queuedErases_insertAhead (x : Die) (b : BlockIx) (i : BufIx) :
    Die.queuedErases { x with workQueue := insertAhead b i x.workQueue } = x.queuedErases := by
  simp only [Die.queuedErases]
  induction x.workQueue with
  | nil => rfl
  | cons w rest ih =>
    cases w with
    | program j => simpa [insertAhead] using ih
    | erase b' t =>
      unfold insertAhead
      split
      · rfl
      · simpa using ih

theorem State.poolStep_post (s : State) (i : BufIx) : s.PoolStep (s.post i) := by
  unfold State.post
  split
  · next hb =>
    refine (s.poolStep_setBuffer i _ (by rw [hb]; rfl)).trans
      (State.poolStep_modifyDie _ _ _ (fun _ => rfl) (fun _ => rfl) fun x => ?_)
    split
    · exact queuedErases_insertAhead x _ i
    · exact x.queuedErases_append_program i
  · exact .refl s

theorem State.poolStep_pressurePost (s : State) : s.PoolStep s.pressurePost := by
  unfold State.pressurePost
  split
  · exact s.poolStep_post _
  · exact .refl s

theorem State.poolStep_postEach (q : Buffer → Bool) (fuel : Nat) (s : State) : s.PoolStep (State.postEach q fuel s) := by
  induction fuel generalizing s with
  | zero => exact .refl s
  | succ n ih =>
    unfold State.postEach
    split
    · exact (s.poolStep_post _).trans (ih _)
    · exact .refl s

theorem State.poolStep_postIfCaused (s : State) (i : BufIx) : s.PoolStep (s.postIfCaused i) := by
  unfold State.postIfCaused
  split
  · split
    · exact s.poolStep_post _
    · exact .refl s
  · exact .refl s

theorem State.poolStep_merge (s : State) (i : BufIx) (t : Tag) (r : Request) : s.PoolStep (s.merge i t r) := by
  unfold State.merge
  split
  · next hb => exact (s.poolStep_setBuffer i _ (by rw [hb]; rfl)).trans (State.poolStep_answerPlain _ _ _)
  · next hb => exact (s.poolStep_setBuffer i _ (by rw [hb]; rfl)).trans (State.poolStep_answerPlain _ _ _)
  · exact .refl s

theorem State.poolStep_judge (s : State) (i : BufIx) (t : Tag) : s.PoolStep (s.judge i t) := by
  unfold State.judge
  split
  · split
    · exact s.poolStep_merge _ _ _
    · exact s.poolStep_answerPlain _ _
  · exact .refl s

theorem State.poolStep_meet (s : State) (i : BufIx) (t : Tag) : s.PoolStep (s.meet i t) := by
  unfold State.meet
  split
  · split
    · exact (s.poolStep_merge _ _ _).trans (State.poolStep_postIfCaused _ _)
    · exact s.poolStep_answerPlain _ _
  · exact .refl s

theorem State.poolStep_setWaitList (s : State) (l : List Tag) : s.PoolStep { s with waitList := l } :=
  .of_eq rfl rfl rfl rfl

theorem State.poolStep_writeJoinsWait (s : State) (t : Tag) : s.PoolStep (s.writeJoinsWait t) :=
  (s.poolStep_setWaitList _).trans (State.poolStep_pressurePost _)

theorem State.poolStep_joinHeld (s : State) (i : BufIx) (t : Tag) : s.PoolStep (s.joinHeld i t) := by
  unfold State.joinHeld
  split
  · next hb => exact s.poolStep_setBuffer i _ (by rw [hb]; rfl)
  · exact .refl s

theorem State.poolStep_joinHold (s : State) (g : GlobalBlock) (t : Tag) : s.PoolStep (s.joinHold g t) :=
  s.poolStep_modifyBlock _ _

theorem State.poolStep_queueArrayRead (s : State) (t : Tag) : s.PoolStep (s.queueArrayRead t) := by
  unfold State.queueArrayRead
  split
  · exact s.poolStep_modifyDie _ _ (fun _ => rfl) (fun _ => rfl) fun _ => rfl
  · exact .refl s

theorem State.poolStep_freeBuffer (s : State) (i : BufIx) : s.PoolStep (s.freeBuffer i) where
  pool l := l.freeBuffer i
  state _ := rfl
  context _ := rfl
  erases _ := rfl
  flushes := by simp [State.freeBuffer, Function.comp_def]
  completions := rfl

theorem State.poolStep_settleHeld (cause : DiscardCause) (s : State) (t : Tag) :
    s.PoolStep (State.settleHeld cause s t) := by
  unfold State.settleHeld
  split
  · exact s.poolStep_answerPlain _ _
  · split
    · exact s.poolStep_answerPlain _ _
    · exact s.poolStep_queueArrayRead _

theorem Die.queuedErases_filter_program (x : Die) (i : BufIx) :
    Die.queuedErases { x with workQueue := x.workQueue.filter (· != .program i) } = x.queuedErases := by
  simp only [Die.queuedErases]
  induction x.workQueue with
  | nil => rfl
  | cons w rest ih =>
    cases w with
    | program j =>
      rw [List.filter_cons]
      split <;> simpa using ih
    | erase b t => simpa [List.filter_cons] using ih

theorem State.poolStep_loseLine (s : State) (i : BufIx) (c : LossCause) (l : LineAddr) (b : LineBody) :
    s.PoolStep (s.loseLine i c l b) :=
  (s.poolStep_writeFault _).trans
    (State.poolStep_modifyDie _ _ _ (fun _ => rfl) (fun _ => rfl) fun x => x.queuedErases_filter_program i)

theorem State.poolStep_discard (cause : DiscardCause) (s : State) (i : BufIx) : s.PoolStep (State.discard cause s i) := by
  unfold State.discard
  split
  · exact .refl s
  · exact ((s.poolStep_setReads _ _).trans (.foldl _ (State.poolStep_settleHeld cause) _ _)).trans
      (State.poolStep_freeBuffer _ _)
  · exact (s.poolStep_loseLine _ _ _ _).trans (State.poolStep_freeBuffer _ _)
  · exact (s.poolStep_loseLine _ _ _ _).trans (State.poolStep_freeBuffer _ _)
  · exact (s.poolStep_loseLine _ _ _ _).trans (State.poolStep_freeBuffer _ _)

theorem State.poolStep_discardAll (s : State) (cause : DiscardCause) (p : BufIx → Buffer → Bool) :
    s.PoolStep (s.discardAll cause p) :=
  .foldl _ (State.poolStep_discard cause) _ _

/-! ### Opening -/

theorem State.lowestFree_some {s : State} {i : BufIx} (h : s.lowestFree = some i) : s.buffer i = .free := by
  have free := List.find?_some h
  simpa [Buffer.isFree] using free

theorem State.mem_bufferIndices (i : BufIx) : i ∈ bufferIndices := by
  revert i; decide

theorem State.openBuffer_some {s : State} {l : LineAddr} {i : BufIx} (h : s.openBuffer l = some i) :
    (s.buffer i).line? = some l ∧ (s.buffer i).isProgramming = false := by
  have found := List.find?_some h
  simpa using found

theorem State.openBuffer_none {s : State} {l : LineAddr} (h : s.openBuffer l = none) (j : BufIx)
    (hj : (s.buffer j).line? = some l) : (s.buffer j).isProgramming = true := by
  have found := List.find?_eq_none.mp h j (State.mem_bufferIndices j)
  simpa [hj] using found

theorem State.programmingBuffer_some {s : State} {l : LineAddr} {i : BufIx} (h : s.programmingBuffer l = some i) :
    (s.buffer i).line? = some l ∧ (s.buffer i).isProgramming = true := by
  have found := List.find?_some h
  simpa using found

theorem State.programmingBuffer_none {s : State} {l : LineAddr} (h : s.programmingBuffer l = none) (j : BufIx)
    (hj : (s.buffer j).line? = some l) : (s.buffer j).isProgramming = false := by
  have found := List.find?_eq_none.mp h j (State.mem_bufferIndices j)
  simpa [hj] using found

/-- Under the law of the pool, no two PROGRAMMING buffers hold one line (R4). -/
theorem State.PoolLaw.programming_unique {s : State} (l : s.PoolLaw) {i j : BufIx}
    (hi : (s.buffer i).isProgramming = true) (hj : (s.buffer j).isProgramming = true)
    (hline : (s.buffer i).line? ≠ none) (h : (s.buffer i).line? = (s.buffer j).line?) : i = j := by
  by_contra hne
  rcases l.1 i j hne hline h with ⟨-, hp⟩ | ⟨-, hp⟩
  · simp [Buffer.isProgramming_of_predecessor hp] at hj
  · simp [Buffer.isProgramming_of_predecessor hp] at hi

/-- A course that opens a buffer for the line finds it FREE, and the line held by no buffer but the predecessor that the
course names (R4, R5, R7). -/
def State.CourseFits (s : State) (l : LineAddr) : Course → Prop
  | .successor i p => s.buffer i = .free ∧ s.openBuffer l = none ∧ s.programmingBuffer l = some p
  | .openClean i => s.buffer i = .free ∧ s.openBuffer l = none ∧ s.programmingBuffer l = none
  | .openLoading i => s.buffer i = .free ∧ s.openBuffer l = none ∧ s.programmingBuffer l = none
  | _ => True

theorem State.bufferCourse_fits (s : State) (l : LineAddr) : s.CourseFits l (s.bufferCourse l) := by
  unfold State.bufferCourse
  split
  · split <;> trivial
  · next ho =>
    split
    · trivial
    · next i hi =>
      split
      · next p hp => exact ⟨State.lowestFree_some hi, ho, hp⟩
      · next hp =>
        split
        · exact ⟨State.lowestFree_some hi, ho, hp⟩
        · exact ⟨State.lowestFree_some hi, ho, hp⟩

theorem State.course_fits (s : State) (l : LineAddr) : s.CourseFits l (s.course l) := by
  unfold State.course
  split
  · trivial
  · exact s.bufferCourse_fits l

/-- Opening a buffer on a line that no buffer holds, or as the successor of the PROGRAMMING one that does. -/
theorem State.poolStep_openAs (s : State) (i : BufIx) (l : LineAddr) (link : Option BufIx) (b : Nat → Buffer)
    (hfree : s.buffer i = .free) (ho : s.openBuffer l = none) (hp : s.programmingBuffer l = link)
    (hb : ∀ n, (b n).shape = (some l, link, false)) : s.PoolStep (s.openAs i b) := by
  have shape := hb s.openCounter
  simp only [Buffer.shape, Prod.mk.injEq] at shape
  obtain ⟨hline, hlink, -⟩ := shape
  refine ⟨fun law => ?_, fun _ => rfl, fun _ => rfl, fun _ => rfl, rfl, rfl⟩
  refine State.PoolLaw.opens (b := b s.openCounter) law hfree hline (fun j hj => ?_) (fun p hpred => ?_)
  · have programming := State.openBuffer_none ho j hj
    refine ⟨programming, ?_⟩
    cases link with
    | none => simp [State.programmingBuffer_none hp j hj] at programming
    | some p =>
      obtain ⟨hpl, hpp⟩ := State.programmingBuffer_some hp
      rw [hlink, law.programming_unique hpp programming (by simp [hpl]) (hpl.trans hj.symm)]
  · rw [hlink] at hpred
    subst hpred
    exact (State.programmingBuffer_some hp).symm

theorem State.poolStep_openWithBase (s : State) (i : BufIx) (t : Tag) (base : LineImage) (link : Option BufIx)
    (h : ∀ r, s.request t = some r →
      s.buffer i = .free ∧ s.openBuffer r.line = none ∧ s.programmingBuffer r.line = link) :
    s.PoolStep (s.openWithBase i t base link) := by
  unfold State.openWithBase
  split
  · exact .refl s
  · next r hr =>
    obtain ⟨hfree, ho, hp⟩ := h r hr
    have opened := s.poolStep_openAs i r.line link (fun n => .filling r.line n (.fresh base) link none) hfree ho hp
      fun _ => rfl
    dsimp only
    split
    · exact (opened.trans (State.poolStep_merge _ _ _ _)).trans (State.poolStep_postIfCaused _ _)
    · exact (opened.trans (State.poolStep_answerPlain _ _ _)).trans (State.poolStep_freeBuffer _ _)

theorem State.poolStep_openLoading (s : State) (i : BufIx) (t : Tag)
    (h : ∀ r, s.request t = some r →
      s.buffer i = .free ∧ s.openBuffer r.line = none ∧ s.programmingBuffer r.line = none) :
    s.PoolStep (s.openLoading i t) := by
  unfold State.openLoading
  split
  · exact .refl s
  · next r hr =>
    obtain ⟨hfree, ho, hp⟩ := h r hr
    exact (s.poolStep_openAs i r.line none (fun n => .loading r.line n [t]) hfree ho hp fun _ => rfl).trans
      (State.poolStep_modifyDie _ _ _ (fun _ => rfl) (fun _ => rfl) fun _ => rfl)

/-! ### Admission, reads and the hand-over -/

theorem State.poolStep_take (s : State) (t : Tag) (c : Course)
    (h : ∀ r, s.request t = some r → s.CourseFits r.line c) : s.PoolStep (s.take t c) := by
  cases c with
  | wait => exact s.poolStep_writeJoinsWait t
  | joinHeld i => exact s.poolStep_joinHeld i t
  | meet i => exact s.poolStep_meet i t
  | successor i p =>
    simp only [State.take]
    split
    · exact s.poolStep_openWithBase i t _ (some p) h
    · exact .refl s
  | openClean i => exact s.poolStep_openWithBase i t _ none h
  | openLoading i => exact s.poolStep_openLoading i t h

/-- A stamped write takes a course that fits its line. -/
theorem State.poolStep_stamped (s : State) (t : Tag) (r : Request) (m : AdmittedMode) (c : Course)
    (h : s.CourseFits r.line c) : s.PoolStep ((s.stampMode t r m).take t c) := by
  refine (s.poolStep_setRequest t _).trans (State.poolStep_take _ t c fun q hq => ?_)
  have hline : q.line = r.line := by
    have e : some { r with mode := some m } = some q := by simpa using hq
    cases e
    rfl
  rw [hline]
  exact h

theorem State.poolStep_processWrite (course : State → LineAddr → Course)
    (fits : ∀ (s : State) (l : LineAddr), s.CourseFits l (course s l)) (s : State) (t : Tag) :
    s.PoolStep (State.processWrite course s t) := by
  unfold State.processWrite
  split
  · exact .refl s
  · split
    · exact s.poolStep_answerPlain _ _
    · exact s.poolStep_joinHold _ _
    · exact s.poolStep_stamped t _ _ _ (fits s _)

theorem State.poolStep_takeRead (s : State) (t : Tag) (r : Request) (c : ReadCourse) :
    s.PoolStep (s.takeRead t r c) := by
  cases c with
  | wait => exact s.poolStep_setWaitList _
  | joinHeld i => exact s.poolStep_joinHeld i t
  | hold => exact s.poolStep_joinHold _ t
  | answered line => exact s.poolStep_answerRead t line
  | offline => exact s.poolStep_answerPlain t _
  | array => exact s.poolStep_queueArrayRead t

theorem State.poolStep_processRead (course : State → Request → ReadCourse) (s : State) (t : Tag) :
    s.PoolStep (State.processRead course s t) := by
  unfold State.processRead
  split
  · exact .refl s
  · exact s.poolStep_takeRead _ _ _

theorem State.poolStep_processVia (reads : State → Request → ReadCourse) (s : State) (t : Tag) :
    s.PoolStep (State.processVia reads s t) := by
  unfold State.processVia
  split
  · exact State.poolStep_processWrite _ State.course_fits s t
  · exact s.poolStep_processRead _ t

theorem State.poolStep_releaseReads (s : State) (l : LineAddr) : s.PoolStep (s.releaseReads l) :=
  (s.poolStep_setWaitList _).trans (.foldl _ (State.poolStep_processRead _) _ _)

theorem State.poolStep_pullLine (s : State) (l : LineAddr) : s.PoolStep (s.pullLine l) :=
  (s.poolStep_setWaitList _).trans (.foldl _ (State.poolStep_processVia _) _ _)

theorem State.poolStep_handTo (s : State) (t : Tag) : s.PoolStep (s.handTo t) := by
  unfold State.handTo
  split
  · exact s.poolStep_setWaitList _
  · dsimp only
    have met := (s.poolStep_setWaitList (s.waitList.filter (· != t))).trans
      (State.poolStep_processWrite State.bufferCourse State.bufferCourse_fits _ t)
    split
    · exact met.trans (State.poolStep_pullLine _ _)
    · exact met.trans (State.poolStep_releaseReads _ _)

theorem State.poolStep_handOverLoop (fuel : Nat) (s : State) : s.PoolStep (State.handOverLoop fuel s) := by
  induction fuel generalizing s with
  | zero => exact .refl s
  | succ n ih =>
    unfold State.handOverLoop
    split
    · exact (s.poolStep_handTo _).trans (ih _)
    · exact .refl s

/-! ### Base arrival and faults -/

theorem State.poolStep_baseStep (i : BufIx) (s : State) (t : Tag) : s.PoolStep (State.baseStep i s t) := by
  unfold State.baseStep
  split
  · exact s.poolStep_judge _ _
  · split
    · exact s.poolStep_answerRead _ _
    · exact .refl s

/-- The held list taken in order, once the base has arrived. -/
theorem State.poolStep_baseSteps (s : State) (i : BufIx) (l : LineAddr) (n : Nat) (held : List Tag) (data : LineImage)
    (h : s.buffer i = .loading l n held) :
    s.PoolStep (held.foldl (State.baseStep i) (s.setBuffer i (.filling l n (.fresh data) none none))) :=
  (s.poolStep_setBuffer i _ (by rw [h]; rfl)).trans (.foldl _ (State.poolStep_baseStep i) _ _)

theorem State.poolStep_failUnfinished (s : State) (d : DieIx) : s.PoolStep (s.failUnfinished d) := by
  unfold State.failUnfinished
  exact .foldl _ (fun s (op : ArrayOp) => s.poolStep_modifyBlock (globalBlock d op.block)
    (fun b => { b with health := .failed, clean := false })) _ _

theorem State.poolStep_faultWaiting (s : State) (d : DieIx) : s.PoolStep (s.faultWaiting d) := by
  unfold State.faultWaiting
  exact (s.poolStep_answerAll _ _).trans (.of_eq rfl rfl rfl rfl)

end Sys2Proof.Machine
end

section
/-! The operations of a die and the tickets in use: what each message, each timer and each arbiter's choice keeps of the
law of the halt context and of the ticket numbers (R78, R160, R161). -/

namespace Sys2Proof.Machine

open Sys2Proof

/-! ## The unfinished operations of a die -/

/-- The erase that an operation is, if it is one. -/
def ArrayOp.erase? : ArrayOp → Option EraseOp
  | .erase e => some e
  | .program _ => none

theorem operationsFit_iff (l : List ArrayOp) : operationsFit l = true ↔
    l = [] ∨ (∃ a, l = [a]) ∨ ∃ e p, l = [.erase e, .program p] := by
  unfold operationsFit
  split
  · simp
  · simp
  · simp
  · next h₁ h₂ h₃ =>
    simp only [Bool.false_eq_true, false_iff, not_or, not_exists]
    exact ⟨h₁, h₂, h₃⟩

theorem operationsFit_of_sublist {l m : List ArrayOp} (h : l.Sublist m) (hm : operationsFit m = true) :
    operationsFit l = true := by
  rw [operationsFit_iff] at hm
  rcases hm with rfl | ⟨a, rfl⟩ | ⟨e, p, rfl⟩
  · rw [List.sublist_nil.mp h]; rfl
  · rcases List.sublist_singleton.mp h with rfl | rfl <;> rfl
  · have mem := List.mem_sublists.mpr h
    simp only [List.sublists, List.foldr, List.mem_flatMap, List.mem_cons, List.not_mem_nil, or_false] at mem
    rcases mem with ⟨a, ⟨b, rfl, rfl | rfl⟩, rfl | rfl⟩ <;> rfl

/-- Among unfinished operations that fit there is at most one erase (R78). -/
theorem erases_length_le_one {l : List ArrayOp} (h : operationsFit l = true) :
    (l.filterMap ArrayOp.erase?).length ≤ 1 := by
  rw [operationsFit_iff] at h
  rcases h with rfl | ⟨a, rfl⟩ | ⟨e, p, rfl⟩
  · exact Nat.zero_le _
  · cases a <;> exact Nat.le_of_ble_eq_true rfl
  · exact Nat.le_refl 1

theorem toList_head?_of_length_le_one {α : Type} {l : List α} (h : l.length ≤ 1) : l.head?.toList = l := by
  match l with
  | [] => rfl
  | [a] => rfl
  | a :: b :: l => simp at h

/-- The erase halted on a die is the first of its halt context. -/
theorem haltedErase_eq (context : List ContextEntry) :
    (context.findSome? fun c => match c.op with
      | .erase e => some e
      | .program _ => none) = ((context.map ContextEntry.op).filterMap ArrayOp.erase?).head? := by
  rw [List.head?_filterMap, List.findSome?_map]
  congr 1

/-- Under the law of the halt context, the erase of a die that is ERASING is the one erase among its unfinished
operations (R110). -/
theorem Die.activeErase_toList {x : Die} (h : operationsFit x.operations = true) :
    x.activeErase.toList = x.operations.filterMap ArrayOp.erase? := by
  have one := erases_length_le_one h
  obtain ⟨state, reads, work, context, count⟩ := x
  have halted := haltedErase_eq context
  cases state with
  | erasing e due guard =>
    simp only [Die.operations, List.filterMap_append, List.length_append] at one ⊢
    have none : (context.map ContextEntry.op).filterMap ArrayOp.erase? = [] := by
      simpa [ArrayOp.erase?] using one
    simp [none, Die.activeErase, ArrayOp.erase?]
  | halting op due haltDue =>
    cases op with
    | erase e =>
      simp only [Die.operations, List.filterMap_append, List.length_append] at one ⊢
      have none : (context.map ContextEntry.op).filterMap ArrayOp.erase? = [] := by
        simpa [ArrayOp.erase?] using one
      simp [none, Die.activeErase, ArrayOp.erase?]
    | program p =>
      simp only [Die.operations, List.filterMap_append, ArrayOp.erase?, List.filterMap_cons, List.filterMap_nil,
        List.append_nil] at one ⊢
      rw [← toList_head?_of_length_le_one one]
      exact congrArg Option.toList halted
  | programming p due guard =>
    simp only [Die.operations, List.filterMap_append, ArrayOp.erase?, List.filterMap_cons, List.filterMap_nil,
      List.append_nil] at one ⊢
    rw [← toList_head?_of_length_le_one one]
    exact congrArg Option.toList halted
  | _ =>
    simp only [Die.operations, List.append_nil] at one ⊢
    rw [← toList_head?_of_length_le_one one]
    exact congrArg Option.toList halted

/-! ## The tickets of a die -/

/-- The tickets that a die's erases and its restart have outstanding (R160). -/
def Die.tickets (x : Die) : List Ticket := x.admittedErases.map EraseOp.ticket ++ x.restartTicket.toList

theorem Die.count_tickets {x : Die} (h : operationsFit x.operations = true) (t : Ticket) :
    x.tickets.count t = ((x.operations.filterMap ArrayOp.erase?).map EraseOp.ticket).count t
      + (x.queuedErases.map EraseOp.ticket).count t + x.restartTicket.toList.count t := by
  simp only [Die.tickets, Die.admittedErases, Die.activeErase_toList h, List.map_append, List.count_append]

/-- The die becomes `y`: the law of the halt context is kept, and the tickets outstanding on it, with those `owed` for
which a completion is still to be recorded, are tickets that it had. -/
structure Die.Owing (owed : List Ticket) (x y : Die) : Prop where
  law : x.ContextLaw → y.ContextLaw
  tickets : x.ContextLaw → ∀ t, y.tickets.count t + owed.count t ≤ x.tickets.count t

/-- A die that loses operations, queued erases or its restart, and starts none. -/
theorem Die.Owing.of_sublist {x y : Die} (ops : y.operations.Sublist x.operations)
    (queue : y.queuedErases.Sublist x.queuedErases) (restart : y.restartTicket = none ∨ y.restartTicket = x.restartTicket)
    (idle : x.ContextLaw → y.state = .ready ∨ y.isStarting = true → y.context = []) : Die.Owing [] x y where
  law l := ⟨operationsFit_of_sublist ops l.1, idle l⟩
  tickets l t := by
    have erases := (((ops.filterMap ArrayOp.erase?).map EraseOp.ticket).count_le t)
    have queued := ((queue.map EraseOp.ticket).count_le t)
    have restarted : y.restartTicket.toList.count t ≤ x.restartTicket.toList.count t := by
      rcases restart with e | e <;> simp [e]
    rw [Die.count_tickets l.1, Die.count_tickets (operationsFit_of_sublist ops l.1), List.count_nil]
    omega

/-- A program starts on a die that is idle, or HALTED with one erase in its context: its PROGRAM entry leaves the
queue (R80, R100). -/
theorem Die.owing_program (x : Die) (p : ProgramOp) (due : Nat) (guard : Option Nat) (i : BufIx)
    (h : x.ContextLaw → operationsFit (x.context.map ContextEntry.op ++ [.program p]) = true)
    (ops : x.operations = x.context.map ContextEntry.op) (restart : x.restartTicket = none) :
    Die.Owing [] x { x with state := .programming p due guard, workQueue := x.workQueue.erase (.program i) } where
  law l := ⟨h l, fun e => by simp [Die.isStarting] at e⟩
  tickets l t := by
    have queued : Die.queuedErases { x with workQueue := x.workQueue.erase (.program i) } = x.queuedErases := by
      simp only [Die.queuedErases]
      induction x.workQueue with
      | nil => rfl
      | cons w rest ih =>
        rw [List.erase_cons]
        split
        · next e => rw [beq_iff_eq] at e; rw [e]; rfl
        · simp only [List.filterMap_cons]
          cases w <;> simp [ih]
    have fits : operationsFit (Die.operations { x with
        state := .programming p due guard, workQueue := x.workQueue.erase (.program i) }) = true := h l
    rw [Die.count_tickets l.1, Die.count_tickets fits, restart, ops]
    simp only [Die.operations, List.filterMap_append]
    have queued' := congrArg (fun q => (q.map EraseOp.ticket).count t) queued
    simp only [Die.queuedErases, Die.restartTicket, ArrayOp.erase?, List.filterMap_cons, List.filterMap_nil,
      List.append_nil, List.count_nil, Option.toList_none] at queued' ⊢
    omega

/-- An erase starts on an idle die: its entry leaves the head of the queue (R81, R117). -/
theorem Die.owing_erase (x : Die) (e : EraseOp) (due : Nat) (guard : Option Nat) (rest : List WorkEntry)
    (hx : x.state = .ready) (hw : x.workQueue = .erase e.block e.ticket :: rest) :
    Die.Owing [] x { x with state := .erasing e due guard, workQueue := rest } where
  law l := by
    have empty := l.2 (.inl hx)
    exact ⟨by simp [Die.operations, empty, operationsFit], fun h => by simp [Die.isStarting] at h⟩
  tickets l t := by
    have empty := l.2 (.inl hx)
    have fits : operationsFit (Die.operations { x with state := .erasing e due guard, workQueue := rest }) = true := by
      simp [Die.operations, empty, operationsFit]
    rw [Die.count_tickets l.1, Die.count_tickets fits]
    simp only [Die.operations, empty, hx, hw, Die.queuedErases, Die.restartTicket, ArrayOp.erase?, List.map_nil,
      List.nil_append, List.filterMap_cons, List.filterMap_nil, List.map_cons, List.count_cons, List.count_nil,
      Option.toList_none]
    omega

/-! ## The tickets in use -/

/-- The tickets in use, counted die by die (R160). -/
theorem State.count_ticketsInUse (s : State) (t : Ticket) :
    s.ticketsInUse.count t = (∑ d : DieIx, (s.die d).tickets.count t)
      + (s.flushes.map FlushRecord.ticket).count t + (s.completions.map Completion.ticket).count t := by
  have restarts (d : DieIx) (l : List DieIx) : ((d :: l).filterMap fun d => (s.die d).restartTicket).count t =
      (s.die d).restartTicket.toList.count t + (l.filterMap fun d => (s.die d).restartTicket).count t := by
    rw [List.filterMap_cons]
    cases (s.die d).restartTicket with
    | none => simp
    | some r => simp [List.count_cons]; omega
  simp only [State.ticketsInUse, State.outstandingTickets, dieIndices, Fin.sum_univ_four, Die.tickets,
    List.count_append, List.flatMap_cons, List.flatMap_nil, restarts, List.filterMap_nil, List.count_nil]
  omega

/-- The law of tickets, from a bound on the uses of each number (R160, R161). -/
theorem State.ticketLaw_of_count {u : State} {l : List Ticket} (h : ∀ t, u.ticketsInUse.count t ≤ l.count t)
    (room : l.length ≤ 8) (once : l.Nodup) : u.TicketLaw := by
  refine ⟨?_, List.nodup_iff_count_le_one.mpr fun t => (h t).trans (List.nodup_iff_count_le_one.mp once t)⟩
  exact (List.subperm_ext_iff.mpr fun t _ => h t).length_le.trans room

/-- From `s` the machine comes to `u` with the law of the line buffers and that of the halt context kept, and the
tickets in use, with those `owed` for which a completion is still to be recorded, are tickets in use before. -/
structure State.Owing (owed : List Ticket) (s u : State) : Prop where
  pool : s.PoolLaw → u.PoolLaw
  context : s.ContextLaw → u.ContextLaw
  tickets : s.ContextLaw → ∀ t, u.ticketsInUse.count t + owed.count t ≤ s.ticketsInUse.count t

/-- Nothing is owed: the law of tickets is kept with the others. -/
abbrev State.KeepsWork (s u : State) : Prop := State.Owing [] s u

theorem State.KeepsWork.ticketLaw {s u : State} (h : s.KeepsWork u) (context : s.ContextLaw) (l : s.TicketLaw) :
    u.TicketLaw :=
  State.ticketLaw_of_count (fun t => by simpa using h.tickets context t) l.1 l.2

theorem State.KeepsWork.refl (s : State) : s.KeepsWork s := ⟨id, id, fun _ _ => by simp⟩

theorem State.Owing.append {a b : List Ticket} {s u v : State} (h : s.Owing a u) (k : u.Owing b v) :
    s.Owing (a ++ b) v where
  pool l := k.pool (h.pool l)
  context l := k.context (h.context l)
  tickets l t := by
    have first := h.tickets l t
    have second := k.tickets (h.context l) t
    rw [List.count_append]
    omega

theorem State.Owing.trans {owed : List Ticket} {s u v : State} (h : s.Owing owed u) (k : u.KeepsWork v) :
    s.Owing owed v := by
  simpa using h.append k

theorem State.KeepsWork.foldl {α : Type} (f : State → α → State) (hf : ∀ (s : State) (a : α), s.KeepsWork (f s a))
    (l : List α) (s : State) : s.KeepsWork (l.foldl f s) := by
  induction l generalizing s with
  | nil => exact .refl s
  | cons a l ih => exact (hf s a).trans (ih _)

/-- What the pool's operations leave of a die has its law and its tickets. -/
theorem State.PoolStep.keepsWork {s u : State} (h : s.PoolStep u) : s.KeepsWork u := by
  have ops (d : DieIx) : (u.die d).operations = (s.die d).operations := by
    simp only [Die.operations, h.state, h.context]
  have law (l : s.ContextLaw) : u.ContextLaw := fun d => by
    obtain ⟨fits, idle⟩ := l d
    refine ⟨by rw [ops]; exact fits, fun e => ?_⟩
    rw [h.context]
    exact idle (by simpa only [Die.isStarting, h.state] using e)
  refine ⟨h.pool, law, fun l t => ?_⟩
  have same (d : DieIx) : (u.die d).tickets.count t = (s.die d).tickets.count t := by
    rw [Die.count_tickets (l d).1, Die.count_tickets (law l d).1, ops, h.erases]
    simp only [Die.restartTicket, h.state]
  rw [State.count_ticketsInUse, State.count_ticketsInUse]
  simp only [same, h.flushes, h.completions, List.count_nil]
  omega

/-- An update of one die controller. -/
theorem State.owing_modifyDie {owed : List Ticket} (s : State) (d : DieIx) (f : Die → Die)
    (h : Die.Owing owed (s.die d) (f (s.die d))) : s.Owing owed (s.modifyDie d f) where
  pool := id
  context l e := by
    rw [State.die_modifyDie]
    split
    · exact h.law (l d)
    · exact l e
  tickets l t := by
    have here := h.tickets (l d) t
    have others : ∑ e ∈ Finset.univ.erase d, ((s.modifyDie d f).die e).tickets.count t =
        ∑ e ∈ Finset.univ.erase d, (s.die e).tickets.count t :=
      Finset.sum_congr rfl fun e he => by rw [State.die_modifyDie, if_neg (Finset.ne_of_mem_erase he).symm]
    rw [State.count_ticketsInUse, State.count_ticketsInUse, ← Finset.add_sum_erase _ _ (Finset.mem_univ d), others,
      ← Finset.add_sum_erase Finset.univ (fun e => (s.die e).tickets.count t) (Finset.mem_univ d),
      State.die_modifyDie, if_pos rfl, State.modifyDie_flushes, State.modifyDie_completions]
    omega

/-- An owed completion is recorded (R163). -/
theorem State.Owing.complete {owed : List Ticket} {s u : State} {c : Completion} (h : s.Owing (c.ticket :: owed) u) :
    s.Owing owed (u.complete c) where
  pool := h.pool
  context := h.context
  tickets l t := by
    have before := h.tickets l t
    rw [State.count_ticketsInUse] at before ⊢
    simp only [State.complete_flushes, State.complete_completions, State.die_complete, List.map_append, List.map_cons,
      List.map_nil, List.count_append, List.count_cons, List.count_nil] at before ⊢
    omega

theorem State.KeepsWork.complete {s u : State} {c : Completion} (h : s.Owing [c.ticket] u) : s.KeepsWork (u.complete c) :=
  State.Owing.complete h

end Sys2Proof.Machine
end

section
/-! What the die controllers and the rest of the happenings keep of the laws of the line buffers, of the halt context and
of the tickets, and that every step keeps these laws (R4, R78, R160, R161). -/

namespace Sys2Proof.Machine

open Sys2Proof

/-! ## Sending -/

theorem State.keepsWork_send (s : State) (d : DieIx) (m : DieMessage) : s.KeepsWork (s.send d m) :=
  State.PoolStep.keepsWork (.of_eq rfl rfl rfl rfl)

theorem State.keepsWork_modifyBlock (s : State) (g : GlobalBlock) (f : BlockRecord → BlockRecord) :
    s.KeepsWork (s.modifyBlock g f) :=
  (s.poolStep_modifyBlock g f).keepsWork

/-- A die controller that stays as busy as it was: its operations and erases stand, and it becomes neither READY nor
STARTING. -/
theorem Die.Owing.of_same {x y : Die} (ops : y.operations = x.operations) (queue : y.queuedErases = x.queuedErases)
    (restart : y.restartTicket = none ∨ y.restartTicket = x.restartTicket)
    (busy : y.state ≠ .ready ∧ y.isStarting = false) : Die.Owing [] x y :=
  .of_sublist (by rw [ops]) (by rw [queue]) restart fun _ h => by
    rcases h with h | h
    · exact absurd h busy.1
    · exact absurd (busy.2.symm.trans h) (by simp)

theorem State.keepsWork_sendRead (s : State) (d : DieIx) (e : ReadEntry) (rest : List ReadEntry)
    (h : (s.die d).state = .ready ∨ ∃ holdOff, (s.die d).state = .halted holdOff) : s.KeepsWork (s.sendRead d e rest) := by
  refine (s.owing_modifyDie d _ (Die.Owing.of_same ?_ rfl (.inl rfl) ⟨by simp, rfl⟩)).trans (State.keepsWork_send _ _ _)
  rcases h with h | ⟨holdOff, h⟩ <;> simp [Die.operations, h]

theorem State.keepsWork_sendHalt (s : State) (d : DieIx) (op : ArrayOp) (due due' : Nat) (guard : Option Nat)
    (h : (s.die d).state = op.runningState due' guard) : s.KeepsWork (s.sendHalt d op due) := by
  refine (s.owing_modifyDie d _ (Die.Owing.of_same ?_ rfl (.inl rfl) ⟨by simp [Die.withState], rfl⟩)).trans
    (State.keepsWork_send _ _ _)
  cases op <;> simp [Die.operations, Die.withState, h, ArrayOp.runningState]

/-- A HALTED die has no operation but those of its halt context. -/
theorem Die.operations_of_halted {x : Die} {holdOff : Option Nat} (h : x.state = .halted holdOff) :
    x.operations = x.context.map ContextEntry.op := by
  simp [Die.operations, h]

theorem State.keepsWork_sendContinue (s : State) (d : DieIx) (holdOff : Option Nat)
    (h : (s.die d).state = .halted holdOff) : s.KeepsWork (s.sendContinue d) := by
  unfold State.sendContinue
  split
  · exact .refl s
  · next c hc =>
    refine (s.owing_modifyDie d _ (Die.Owing.of_same ?_ rfl ?_ ?_)).trans (State.keepsWork_send _ _ _)
    · have context : (s.die d).context.dropLast ++ [c] = (s.die d).context := by
        obtain ⟨ys, hys⟩ := List.getLast?_eq_some_iff.mp hc
        simp [hys]
      rw [Die.operations_of_halted h, ← context, List.map_append]
      cases hop : c.op <;> simp [Die.operations, ArrayOp.runningState, hop]
    · cases c.op <;> exact .inl rfl
    · cases c.op <;> exact ⟨by simp [ArrayOp.runningState], rfl⟩

/-- A program may start: its buffer has no link, and its die is idle, or HALTED with one erase alone (R80, R99). -/
theorem State.keepsWork_startProgram (s : State) (d : DieIx) (i : BufIx) (unlinked : s.linked i = false)
    (h : (s.die d).state = .ready ∨
      ∃ holdOff e budget, (s.die d).state = .halted holdOff ∧ (s.die d).context = [⟨.erase e, budget⟩]) :
    s.KeepsWork (s.startProgram d i) := by
  unfold State.startProgram
  split
  · next l body _ _ =>
    have started : s.KeepsWork (s.setBuffer i (s.buffer i).started) :=
      (s.poolStep_buffers _ fun law => State.PoolLaw.starts law (by simpa [State.linked] using unlinked)).keepsWork
    refine ((started.trans (State.keepsWork_modifyBlock _ l.global _)).trans
      (State.owing_modifyDie _ d _ ?_)).trans (State.keepsWork_send _ _ _)
    refine Die.owing_program (s.die d) _ _ _ i (fun law => ?_) ?_ ?_
    · rcases h with h | ⟨_, _, _, _, hc⟩
      · simp [law.2 (.inl h), operationsFit]
      · simp [hc, operationsFit]
    · rcases h with h | ⟨_, _, _, h, _⟩ <;> simp [Die.operations, h]
    · rcases h with h | ⟨_, _, _, h, _⟩ <;> simp [Die.restartTicket, h]
  · exact .refl s

theorem State.keepsWork_startErase (s : State) (d : DieIx) (e : EraseOp) (rest : List WorkEntry)
    (hs : (s.die d).state = .ready) (hw : (s.die d).workQueue = .erase e.block e.ticket :: rest) :
    s.KeepsWork (s.startErase d e rest) := by
  refine State.Owing.trans ?_ (State.keepsWork_send _ _ _)
  refine State.Owing.trans 
    (s.keepsWork_modifyBlock (globalBlock d e.block) fun b => { b with erase := .erasing, clean := false }) ?_
  exact State.owing_modifyDie _ d _ (Die.owing_erase (s.die d) e _ _ rest hs hw)

/-! ## The arbiter -/

theorem State.unlinked_of_firstStartable {s : State} {work : List WorkEntry} {i : BufIx}
    (h : s.firstStartable work = some i) : s.linked i = false := by
  induction work with
  | nil => cases h
  | cons w rest ih =>
    cases w with
    | program j =>
      simp only [State.firstStartable] at h
      split at h
      · exact ih h
      · next hn => cases h; simpa using hn
    | erase b t => exact ih h

theorem State.keepsWork_serveWork (s : State) (d : DieIx) (h : (s.die d).state = .ready) :
    s.KeepsWork (s.serveWork d) := by
  unfold State.serveWork
  split
  · exact .refl s
  · split
    · exact .refl s
    · next hl => exact s.keepsWork_startProgram d _ (by simpa using hl) (.inl h)
  · next b t rest hw =>
    split
    · split
      · next i hi => exact s.keepsWork_startProgram d i (State.unlinked_of_firstStartable hi) (.inl h)
      · exact .refl s
    · exact s.keepsWork_startErase d ⟨b, t⟩ rest h hw

/-- The interleaved program's buffer has no link, and it starts inside the halt of one erase (R99). -/
theorem State.interleaveCandidate_some {s : State} {d : DieIx} {i : BufIx} (h : s.interleaveCandidate d = some i) :
    ∃ e budget more, (s.die d).context = [⟨.erase e, budget⟩] ∧ (s.die d).workQueue = .program i :: more ∧
      (s.buffer i).inBlock (globalBlock d e.block) = false ∧ s.linked i = false ∧
      (s.die d).interleave < s.settings.interleaveBudget := by
  unfold State.interleaveCandidate at h
  split at h
  · next e budget j more hc hw =>
    split at h
    · next hcond =>
      cases h
      simp only [Bool.and_eq_true, Bool.not_eq_true', decide_eq_true_eq] at hcond
      exact ⟨e, budget, more, hc, hw, hcond.1.1, hcond.1.2, hcond.2⟩
    · cases h
  · cases h

theorem State.keepsWork_decide (s : State) (d : DieIx) (holdOff : Option Nat) (h : (s.die d).state = .halted holdOff) :
    s.KeepsWork (s.decide d) := by
  unfold State.decide
  split
  · next i hi =>
    obtain ⟨e, budget, _, hc, -, -, hl, -⟩ := State.interleaveCandidate_some hi
    refine State.Owing.trans (s.keepsWork_startProgram d i hl (.inr ⟨holdOff, e, budget, h, hc⟩)) ?_
    exact (State.poolStep_modifyDie _ d (fun x => { x with interleave := x.interleave + 1 }) (fun _ => rfl)
      (fun _ => rfl) fun _ => rfl).keepsWork
  · exact s.keepsWork_sendContinue d holdOff h

theorem State.keepsWork_startHoldOff (s : State) (d : DieIx) (holdOff : Option Nat)
    (h : (s.die d).state = .halted holdOff) : s.KeepsWork (s.startHoldOff d) := by
  unfold State.startHoldOff
  split
  · exact s.keepsWork_decide d holdOff h
  · refine s.owing_modifyDie d _ (Die.Owing.of_same ?_ rfl (.inl rfl) ⟨by simp [Die.withState], rfl⟩)
    simp [Die.operations, Die.withState, h]

theorem State.keepsWork_arbitrate (s : State) (d : DieIx) : s.KeepsWork (s.arbitrate d) := by
  unfold State.arbitrate
  split
  · next hs _ => exact s.keepsWork_sendRead d _ _ (.inl hs)
  · next hs _ => exact s.keepsWork_serveWork d hs
  · next hs _ => exact s.keepsWork_sendRead d _ _ (.inr ⟨_, hs⟩)
  · next hs _ => exact s.keepsWork_startHoldOff d none hs
  · next p due _ _ hs _ => exact s.keepsWork_sendHalt d (.program p) due due none hs
  · next e due _ _ hs _ => exact s.keepsWork_sendHalt d (.erase e) due due none hs
  · exact .refl s

theorem State.keepsWork_settle (s : State) : s.KeepsWork s.settle := .foldl _ State.keepsWork_arbitrate _ _

theorem State.keepsWork_decideAtOnce (s : State) (d : DieIx) : s.KeepsWork (s.decideAtOnce d) := by
  unfold State.decideAtOnce
  split
  · next hs _ => exact s.keepsWork_decide d none hs
  · exact .refl s

/-! ## Freed buffers -/

/-- A flush that completes gives its ticket to its completion record (R28). -/
theorem State.keepsWork_completeFlushes (s : State) : s.KeepsWork s.completeFlushes where
  pool l := l
  context l := l
  tickets _ t := by
    have parts := ((List.filter_append_perm (fun f : FlushRecord => f.members.isEmpty) s.flushes).map
      FlushRecord.ticket).count_eq t
    rw [State.count_ticketsInUse, State.count_ticketsInUse]
    simp only [State.completeFlushes, List.map_append, List.map_map, List.count_append, List.count_nil] at parts ⊢
    have records : Completion.ticket ∘ (fun f : FlushRecord => f.completion .done) = FlushRecord.ticket := rfl
    have dies (d : DieIx) : ({ s with
        flushes := s.flushes.filter fun f => !f.members.isEmpty
        completions := s.completions ++
          (s.flushes.filter fun f => f.members.isEmpty).map fun f => f.completion .done } : State).die d = s.die d := rfl
    simp only [records, dies]
    omega

theorem State.keepsWork_afterFree (s : State) : s.KeepsWork s.afterFree :=
  s.keepsWork_completeFlushes.trans (State.poolStep_handOverLoop _ _).keepsWork

theorem State.keepsWork_freed (s : State) (i : BufIx) : s.KeepsWork (s.freeBuffer i).afterFree :=
  (s.poolStep_freeBuffer i).keepsWork.trans (State.keepsWork_afterFree _)

/-! ## The host port -/

theorem State.keepsWork_takeFresh (s : State) (t : Tag) (r : Request) (m : AdmittedMode) (c : Course)
    (h : s.CourseFits r.line c) : s.KeepsWork ((s.stampMode t r m).takeFresh t c) := by
  have taken := (s.poolStep_stamped t r m c h).keepsWork
  unfold State.takeFresh
  split
  · exact taken.trans (State.keepsWork_afterFree _)
  · exact taken.trans (State.keepsWork_afterFree _)
  · exact taken

theorem State.keepsWork_writeArrives (s : State) (t : Tag) (r : Request) : s.KeepsWork (s.writeArrives t r) := by
  unfold State.writeArrives
  split
  · exact (s.poolStep_answerPlain _ _).keepsWork
  · exact (s.poolStep_joinHold _ _).keepsWork
  · exact (s.keepsWork_takeFresh t r _ _ (s.course_fits r.line)).trans (State.keepsWork_settle _)

theorem State.keepsWork_readArrives (s : State) (t : Tag) (r : Request) : s.KeepsWork (s.readArrives t r) := by
  unfold State.readArrives
  split
  · exact (s.poolStep_queueArrayRead _).keepsWork.trans (State.keepsWork_arbitrate _ _)
  · exact (s.poolStep_takeRead _ _ _).keepsWork

theorem State.keepsWork_acceptRequest (s : State) (t : Tag) (a : BitVec 27) (p : Payload)
    (arrive : State → Tag → Request → State) (h : arrive = State.writeArrives ∨ arrive = State.readArrives) :
    s.KeepsWork (s.acceptRequest t a p arrive) := by
  rcases s.acceptRequest_cases t a p arrive with e | ⟨-, detail, e⟩ | ⟨-, -, e⟩
  · rw [e]; exact .refl s
  · rw [e]; exact State.PoolStep.keepsWork (.of_eq rfl rfl rfl rfl)
  · rw [e]
    refine (s.poolStep_setRequest t (some (s.accepted a p))).keepsWork.trans ?_
    rcases h with rfl | rfl
    · exact State.keepsWork_writeArrives _ _ _
    · exact State.keepsWork_readArrives _ _ _

theorem Buffer.shape_dropHeld (b : Buffer) (t : Tag) : (b.dropHeld t).shape = b.shape := by cases b <;> rfl

theorem State.buffer_dropHeld (s : State) (t : Tag) (i : BufIx) :
    ({ s with buffers := mapIndexed (fun _ b => b.dropHeld t) s.buffers } : State).buffer i = (s.buffer i).dropHeld t := by
  simp [State.buffer]

/-- What the controller's state is, it stays when a request leaves its queue (R65, R75). -/
theorem DieState.dropTag_cases (st : DieState) (t : Tag) :
    st.dropTag t = st ∨ ∃ e e' due, st = .reading e due ∧ st.dropTag t = .reading e' due := by
  unfold DieState.dropTag
  split
  · exact .inr ⟨_, _, _, rfl, rfl⟩
  · exact .inl rfl

theorem Die.operations_dropTag (x : Die) (t : Tag) : (x.dropTag t).operations = x.operations := by
  rcases x.state.dropTag_cases t with h | ⟨e, e', due, hs, h⟩
  · simp only [Die.operations, Die.dropTag, h]
  · simp only [Die.operations, Die.dropTag, h]
    simp only [hs]

theorem Die.owing_dropTag (x : Die) (t : Tag) : Die.Owing [] x (x.dropTag t) := by
  refine .of_sublist (by rw [x.operations_dropTag]) (List.Sublist.refl _) ?_ fun l h => l.2 ?_
  · rcases x.state.dropTag_cases t with e | ⟨_, _, _, -, e⟩
    · exact .inr (by simp only [Die.restartTicket, Die.dropTag, e])
    · exact .inl (by simp only [Die.restartTicket, Die.dropTag, e])
  · rcases x.state.dropTag_cases t with e | ⟨_, _, _, -, e⟩
    · simpa only [Die.isStarting, Die.dropTag, e] using h
    · simp [Die.isStarting, Die.dropTag, e] at h

theorem State.keepsWork_leavePlace (s : State) (t : Tag) (r : Request) : s.KeepsWork (s.leavePlace t r) := by
  unfold State.leavePlace
  refine State.Owing.trans ?_ (State.owing_modifyDie _ _ _ (Die.owing_dropTag _ t))
  refine State.Owing.trans ?_ (State.keepsWork_modifyBlock _ _ _)
  refine State.Owing.trans ?_ (State.poolStep_setWaitList _ _).keepsWork
  exact (s.poolStep_buffers _ fun l => l.congr fun i => by
    rw [State.buffer_dropHeld, Buffer.shape_dropHeld]).keepsWork

theorem State.keepsWork_timeOut (s : State) (t : Tag) (r : Request) : s.KeepsWork (s.timeOut t r) := by
  have answered := (s.keepsWork_leavePlace t r).trans (State.poolStep_answerPlain _ t .timeout).keepsWork
  unfold State.timeOut
  dsimp only
  split
  · exact answered.trans (State.poolStep_releaseReads _ _).keepsWork
  · exact answered

/-! ## The array link -/

/-- A die that has become idle is READY with an empty halt context, and HALTED otherwise (R82). -/
theorem Die.idle_cases (x : Die) :
    (x.context = [] ∧ x.idle = x.withState .ready) ∨ (x.context ≠ [] ∧ x.idle = x.withState (.halted none)) := by
  unfold Die.idle
  cases h : x.context with
  | nil => exact .inl ⟨rfl, rfl⟩
  | cons c rest => exact .inr ⟨by simp, rfl⟩

theorem Die.operations_idle (x : Die) : x.idle.operations = x.context.map ContextEntry.op := by
  rcases x.idle_cases with ⟨-, e⟩ | ⟨-, e⟩ <;> simp [e, Die.operations, Die.withState]

theorem Die.restartTicket_idle (x : Die) : x.idle.restartTicket = none := by
  rcases x.idle_cases with ⟨-, e⟩ | ⟨-, e⟩ <;> rw [e] <;> rfl

theorem Die.owing_idle (x : Die) : Die.Owing [] x x.idle := by
  refine .of_sublist ?_ (List.Sublist.refl _) (.inl x.restartTicket_idle) fun _ h => ?_
  · rw [x.operations_idle]
    exact List.sublist_append_left _ _
  · rcases x.idle_cases with ⟨hc, e⟩ | ⟨-, e⟩
    · rw [e]; exact hc
    · simp [e, Die.withState, Die.isStarting] at h

theorem State.keepsWork_baseArrival (s : State) (i : BufIx) (data : LineImage) : s.KeepsWork (s.baseArrival i data) := by
  unfold State.baseArrival
  split
  · next l n held hb =>
    have done := (s.poolStep_baseSteps i l n held data hb).keepsWork
    dsimp only
    split
    · exact done.trans (State.poolStep_postIfCaused _ _).keepsWork
    · exact done.trans (State.keepsWork_freed _ _)
  · exact .refl s

theorem State.keepsWork_deliver (s : State) (data : LineImage) (e : ReadEntry) : s.KeepsWork (s.deliver data e) := by
  unfold State.deliver
  split
  · exact s.keepsWork_baseArrival _ _
  · exact (s.poolStep_answerRead _ _).keepsWork
  · exact .refl s

theorem State.keepsWork_lineLost (s : State) (i : BufIx) (l : LineAddr) (body : LineBody) :
    s.KeepsWork (s.lineLost i l body) := by
  unfold State.lineLost
  dsimp only
  refine State.Owing.trans ?_ (State.keepsWork_freed _ _)
  exact (((s.poolStep_writeFault _).trans (State.poolStep_modifyBlock _ _ _)).trans
    (State.poolStep_discardAll _ _ _)).keepsWork

theorem State.keepsWork_programFailed (s : State) (i : BufIx) : s.KeepsWork (s.programFailed i) := by
  unfold State.programFailed
  split
  · next hb =>
    split
    · refine State.PoolStep.keepsWork (.trans (.trans (s.poolStep_setBuffer i _ ?_) (State.poolStep_writeFault _ _))
        (State.poolStep_modifyDie _ _ _ (fun _ => rfl) (fun _ => rfl) fun _ => rfl))
      rw [hb]
      rfl
    · exact s.keepsWork_lineLost _ _ _
  · exact .refl s

/-- The die of an erase that has ended owes its completion (R84, R119). -/
theorem Die.owing_afterErase (x : Die) (e : EraseOp) (h : x.runningErase = some e) :
    Die.Owing [e.ticket] x x.afterErase := by
  have ops : x.operations = x.context.map ContextEntry.op ++ [.erase e] := by
    unfold Die.runningErase at h
    split at h
    · next hs => cases h; simp [Die.operations, hs]
    · next hs => cases h; simp [Die.operations, hs]
    · cases h
  have idleOps : x.afterErase.operations = x.context.map ContextEntry.op := x.operations_idle
  have law : x.ContextLaw → x.afterErase.ContextLaw := fun l => x.owing_idle.law l
  refine ⟨law, fun l t => ?_⟩
  have restart : x.afterErase.restartTicket = none := x.restartTicket_idle
  have queued : x.afterErase.queuedErases = x.queuedErases := rfl
  rw [Die.count_tickets l.1, Die.count_tickets (law l).1, ops, idleOps, restart, queued]
  simp only [List.filterMap_append, ArrayOp.erase?, List.filterMap_cons, List.filterMap_nil, List.map_append,
    List.map_cons, List.map_nil, List.count_append, Option.toList_none, List.count_nil]
  omega

theorem State.poolStep_clearMarks (s : State) (g : GlobalBlock) : s.PoolStep (s.clearMarks g) := .of_eq rfl rfl rfl rfl

theorem State.keepsWork_erasePassed (s : State) (d : DieIx) (e : EraseOp) (h : (s.die d).runningErase = some e) :
    s.KeepsWork ((s.modifyDie d Die.afterErase).erasePassed d e) := by
  unfold State.erasePassed
  refine State.Owing.trans ?_ (State.keepsWork_afterFree _)
  refine State.Owing.trans ?_ (State.PoolStep.foldl _ (State.poolStep_processVia _) _ _).keepsWork
  exact State.KeepsWork.complete ((s.owing_modifyDie d _ (Die.owing_afterErase _ e h)).trans
    ((State.poolStep_modifyBlock _ _ _).trans (State.poolStep_clearMarks _ _)).keepsWork)

theorem State.keepsWork_eraseFailed (s : State) (d : DieIx) (e : EraseOp) (h : (s.die d).runningErase = some e) :
    s.KeepsWork ((s.modifyDie d Die.afterErase).eraseFailed d e) := by
  unfold State.eraseFailed
  refine State.Owing.trans ?_ (State.PoolStep.foldl _ (State.poolStep_settleHeld .blockFailed) _ _).keepsWork
  exact State.KeepsWork.complete ((s.owing_modifyDie d _ (Die.owing_afterErase _ e h)).trans
    (((State.poolStep_modifyBlock _ _ _).trans (State.poolStep_clearMarks _ _)).trans
      (State.poolStep_writeFault _ _)).keepsWork)

theorem Die.owing_pushHalted (x : Die) (op : ArrayOp) (budget due haltDue : Nat) (h : x.state = .halting op due haltDue) :
    Die.Owing [] x (x.pushHalted op budget) :=
  .of_same (by simp [Die.operations, Die.pushHalted, h]) rfl (.inl rfl) ⟨by simp [Die.pushHalted], rfl⟩

theorem Die.owing_guardPassed (x : Die) (due : Nat) (h : x.guardDue? = some due) : Die.Owing [] x x.guardPassed := by
  have running : (∃ p due guard, x.state = .programming p due guard) ∨ ∃ e due guard, x.state = .erasing e due guard := by
    unfold Die.guardDue? at h
    split at h
    · next hs => exact .inl ⟨_, _, _, hs⟩
    · next hs => exact .inr ⟨_, _, _, hs⟩
    · cases h
  rcases running with ⟨p, due, guard, hs⟩ | ⟨e, due, guard, hs⟩
  · have passed : x.guardPassed = x.withState (.programming p due none) := by simp [Die.guardPassed, hs]
    rw [passed]
    exact .of_same (by simp [Die.operations, Die.withState, hs]) rfl (.inl rfl) ⟨by simp [Die.withState], rfl⟩
  · have passed : x.guardPassed = x.withState (.erasing e due none) := by simp [Die.guardPassed, hs]
    rw [passed]
    exact .of_same (by simp [Die.operations, Die.withState, hs]) rfl (.inl rfl) ⟨by simp [Die.withState], rfl⟩

/-! ## OFFLINE -/

/-- Every erase of a list completes as FAILED, as it is owed (R87, R123). -/
theorem State.owing_failErases (d : DieIx) (es : List EraseOp) {s u : State}
    (h : s.Owing (es.map EraseOp.ticket) u) : s.KeepsWork (es.foldl (State.failErase d) u) := by
  induction es generalizing u with
  | nil => exact h
  | cons e es ih =>
    refine ih (State.Owing.complete ?_)
    exact h.trans ((State.poolStep_modifyBlock _ _ _).trans (State.poolStep_clearMarks _ _)).keepsWork

/-- A die controller as it goes OFFLINE, before its buffers are discarded (R86, R87). -/
def Die.takenOffline (x : Die) : Die :=
  { x with state := .offline none, readQueue := x.readQueue.filter fun e => e.tag?.isNone, context := [], interleave := 0 }

/-- A die that goes OFFLINE loses its operations, and owes the completion of the erase among them. -/
theorem Die.owing_takenOffline (x : Die) :
    Die.Owing (x.activeErase.toList.map EraseOp.ticket) x x.takenOffline where
  law _ := ⟨rfl, fun _ => rfl⟩
  tickets l t := by
    rw [Die.activeErase_toList l.1, Die.count_tickets l.1, Die.count_tickets rfl]
    simp only [Die.takenOffline, Die.operations, Die.queuedErases, Die.restartTicket, List.map_nil, List.append_nil, List.filterMap_nil,
      List.count_nil, Option.toList_none]
    omega

/-- An OFFLINE die whose queues are emptied owes the completions of its queued erases. -/
theorem Die.owing_emptied (x : Die) (h : x.state = .offline none) :
    Die.Owing (x.queuedErases.map EraseOp.ticket) x { x with readQueue := [], workQueue := [] } where
  law l := ⟨l.1, fun e => by simp [Die.isStarting, h] at e⟩
  tickets l t := by
    rw [Die.count_tickets l.1, Die.count_tickets (x := { x with readQueue := [], workQueue := [] }) l.1]
    simp only [Die.operations, Die.queuedErases, Die.restartTicket, h, List.filterMap_nil, List.map_nil, List.count_nil,
      Option.toList_none]
    omega

theorem State.keepsWork_goOffline (s : State) (d : DieIx) (report : FaultBody) : s.KeepsWork (s.goOffline d report) := by
  unfold State.goOffline
  dsimp only
  refine State.Owing.trans (State.owing_failErases d _ ?_) (State.keepsWork_afterFree _)
  have faulted := ((s.poolStep_writeFault report).trans (State.poolStep_failUnfinished _ d)).trans
    (State.poolStep_faultWaiting _ d)
  generalize (((s.writeFault report).failUnfinished d).faultWaiting d) = f at faulted
  have emptied := faulted.keepsWork.append (f.owing_modifyDie d Die.takenOffline (Die.owing_takenOffline (f.die d)))
  have discards := State.poolStep_discardAll (f.modifyDie d Die.takenOffline) .dieOffline fun _ b => b.inDie d
  have offline : ((f.modifyDie d Die.takenOffline).die d).state = .offline none := by
    rw [State.die_modifyDie, if_pos rfl]
    rfl
  have cleared := (emptied.trans discards.keepsWork).append (State.owing_modifyDie _ d
    (fun y => { y with readQueue := [], workQueue := [] }) (Die.owing_emptied _ ((discards.state d).trans offline)))
  have active : (f.die d).activeErase = (s.die d).activeErase := by
    unfold Die.activeErase
    rw [faulted.state, faulted.context]
  have queued := (discards.erases d).trans (show _ = (s.die d).queuedErases by
    rw [State.die_modifyDie, if_pos rfl]; exact faulted.erases d)
  rw [queued, active, List.nil_append, ← List.map_append] at cleared
  exact cleared

end Sys2Proof.Machine
end

section
/-! Every command and every step keeps the laws of the line buffers, of the halt context and of the tickets (R4, R78,
R160, R161). -/

namespace Sys2Proof.Machine

open Sys2Proof

/-! ## Tickets given -/

theorem mem_of_firstFree_mem {used : List Ticket} (fuel : Nat) (t : Ticket) (h : firstFree used fuel t ∈ used) (k : Nat)
    (hk : k ≤ fuel) : t + Fin.ofNat 256 k ∈ used := by
  induction fuel generalizing t k with
  | zero =>
    obtain rfl : k = 0 := by omega
    simpa [firstFree] using h
  | succ n ih =>
    unfold firstFree at h
    split at h
    · next hused =>
      cases k with
      | zero => simpa using hused
      | succ k =>
        have next := ih (t + 1) h k (by omega)
        have step : t + 1 + Fin.ofNat 256 k = t + Fin.ofNat 256 (k + 1) := by
          apply Fin.ext
          simp only [Fin.val_add, Fin.val_ofNat]
          omega
        rwa [step] at next
    · next hfree => simp [h] at hfree

/-- With at most seven numbers in use the ticket given is not one of them (R160, R161). -/
theorem State.nextTicket_not_mem {s : State} (h : s.ticketsInUse.length < 8) : s.nextTicket ∉ s.ticketsInUse := by
  intro hmem
  have used : ((List.range 8).map fun k => s.ticketCounter + Fin.ofNat 256 k) ⊆ s.ticketsInUse := by
    intro t ht
    obtain ⟨k, hk, rfl⟩ := List.mem_map.mp ht
    exact mem_of_firstFree_mem _ _ hmem k (by have := List.mem_range.mp hk; simp [Config.ticketRoom]; omega)
  have once : ((List.range 8).map fun k => s.ticketCounter + Fin.ofNat 256 k).Nodup := by
    refine List.Nodup.map_on (fun a ha b hb e => ?_) List.nodup_range
    have e := add_left_cancel e
    simp only [Fin.ext_iff, Fin.val_ofNat] at e
    have := List.mem_range.mp ha
    have := List.mem_range.mp hb
    omega
  have room := (once.subperm used).length_le
  simp at room
  omega

/-- The counter's own number is given where it is free (R160). -/
theorem State.nextTicket_of_free {s : State} (h : s.ticketCounter ∉ s.ticketsInUse) : s.nextTicket = s.ticketCounter := by
  simp [State.nextTicket, Config.ticketRoom, firstFree, h]

theorem State.ticketSpaceFull_iff (s : State) : s.ticketSpaceFull = true ↔ 8 ≤ s.ticketsInUse.length :=
  decide_eq_true_iff

/-! ## The three laws together -/

/-- The laws of the line buffers and of the halt context, and with the latter that of the tickets. -/
structure State.WorkKept (s u : State) : Prop where
  pool : s.PoolLaw → u.PoolLaw
  context : s.ContextLaw → u.ContextLaw
  tickets : s.ContextLaw → s.TicketLaw → u.TicketLaw

theorem State.KeepsWork.workKept {s u : State} (h : s.KeepsWork u) : s.WorkKept u := ⟨h.pool, h.context, h.ticketLaw⟩

theorem State.WorkKept.trans {s u v : State} (h : s.WorkKept u) (k : u.WorkKept v) : s.WorkKept v :=
  ⟨fun l => k.pool (h.pool l), fun l => k.context (h.context l),
    fun l m => k.tickets (h.context l) (h.tickets l m)⟩

theorem State.WorkKept.of_eq {s u : State} (buffers : u.buffers = s.buffers) (dies : u.dies = s.dies)
    (flushes : u.flushes = s.flushes) (completions : u.completions = s.completions) : s.WorkKept u :=
  (State.PoolStep.of_eq buffers dies flushes completions).keepsWork.workKept

theorem State.WorkKept.refl (s : State) : s.WorkKept s := ⟨id, id, fun _ l => l⟩

/-- The machine comes to `u` with one more ticket in use, the laws of the line buffers and the halt context kept. -/
structure State.Taking (tk : Ticket) (s u : State) : Prop where
  pool : s.PoolLaw → u.PoolLaw
  context : s.ContextLaw → u.ContextLaw
  tickets : s.ContextLaw → ∀ t, u.ticketsInUse.count t ≤ (tk :: s.ticketsInUse).count t

theorem State.Taking.trans {tk : Ticket} {s u v : State} (h : s.Taking tk u) (k : u.KeepsWork v) : s.Taking tk v where
  pool l := k.pool (h.pool l)
  context l := k.context (h.context l)
  tickets l t := by
    have after := k.tickets (h.context l) t
    rw [List.count_nil] at after
    exact after.trans (h.tickets l t)

/-- An admitted command takes a free number below the bound of eight (R160, R161). -/
theorem State.Taking.workKept {s u : State} (h : s.Taking s.nextTicket u) (room : ¬ s.ticketSpaceFull = true) :
    s.WorkKept u := by
  have room : s.ticketsInUse.length < 8 := Nat.lt_of_not_le (mt s.ticketSpaceFull_iff.mpr room)
  exact ⟨h.pool, h.context, fun l m =>
    State.ticketLaw_of_count (h.tickets l) room (List.nodup_cons.mpr ⟨State.nextTicket_not_mem room, m.2⟩)⟩

/-- One die controller takes the ticket. -/
theorem State.taking_die {tk : Ticket} (s : State) {u : State} (d : DieIx) (buffers : u.buffers = s.buffers)
    (others : ∀ e, d ≠ e → u.die e = s.die e) (flushes : u.flushes = s.flushes)
    (completions : u.completions = s.completions) (law : (s.die d).ContextLaw → (u.die d).ContextLaw)
    (tickets : (s.die d).ContextLaw → ∀ t, (u.die d).tickets.count t = (s.die d).tickets.count t + [tk].count t) :
    s.Taking tk u where
  pool l := l.congr fun i => by simp [State.buffer, buffers]
  context l e := by
    by_cases h : d = e
    · subst h; exact law (l d)
    · rw [others e h]; exact l e
  tickets l t := by
    have rest : ∑ e ∈ Finset.univ.erase d, (u.die e).tickets.count t =
        ∑ e ∈ Finset.univ.erase d, (s.die e).tickets.count t :=
      Finset.sum_congr rfl fun e he => by rw [others e (Finset.ne_of_mem_erase he).symm]
    have here := tickets (l d) t
    have sum := Finset.add_sum_erase Finset.univ (fun e => (s.die e).tickets.count t) (Finset.mem_univ d)
    have cons : (tk :: s.ticketsInUse).count t = [tk].count t + s.ticketsInUse.count t :=
      List.count_append (l₁ := [tk])
    rw [cons, State.count_ticketsInUse, State.count_ticketsInUse, ← Finset.add_sum_erase _ _ (Finset.mem_univ d), rest,
      here, flushes, completions]
    omega

/-! ## Traffic -/

theorem workKept_traffic {c : Instr} {s u : State} (hc : c.isTraffic = true) (h : exec c s = .next u) :
    s.WorkKept u := by
  have quiet : s.KeepsWork s.quiet := State.PoolStep.keepsWork (.of_eq rfl rfl rfl rfl)
  have reach (due : Nat) : s.KeepsWork (s.quiet.reach due) := State.PoolStep.keepsWork (.of_eq rfl rfl rfl rfl)
  have idle (d : DieIx) : s.KeepsWork (s.quiet.modifyDie d Die.idle) :=
    quiet.trans (State.owing_modifyDie _ d _ (Die.owing_idle _))
  refine State.KeepsWork.workKept ?_
  cases c with
  | hostWrite t a bs =>
    obtain ⟨t, a, p, arrive, ha, rfl⟩ := exec_host (.inl ⟨t, a, bs, rfl⟩) h
    exact quiet.trans (State.keepsWork_acceptRequest _ t a p arrive ha)
  | hostRead t a n =>
    obtain ⟨t, a, p, arrive, ha, rfl⟩ := exec_host (.inr ⟨t, a, n, rfl⟩) h
    exact quiet.trans (State.keepsWork_acceptRequest _ t a p arrive ha)
  | responseDelivery =>
    simp only [exec, execResponseDelivery] at h
    split at h <;> cases h
    · exact quiet
    · exact State.PoolStep.keepsWork (.of_eq rfl rfl rfl rfl)
  | holdTimerExpiry t =>
    simp only [exec, execHoldTimerExpiry] at h
    split at h
    · split at h <;> cases h
      · exact ((reach _).trans (State.keepsWork_timeOut _ _ _)).trans (State.keepsWork_settle _)
      · exact quiet
    · cases h; exact quiet
  | coalesceTimerExpiry i =>
    simp only [exec, execCoalesceTimerExpiry] at h
    split at h <;> cases h
    · exact ((reach _).trans (State.poolStep_post _ _).keepsWork).trans (State.keepsWork_settle _)
    · exact quiet
  | lineData d data =>
    simp only [exec, execLineData] at h
    split at h <;> cases h
    · exact ((idle d).trans (State.keepsWork_deliver _ _ _)).trans (State.keepsWork_settle _)
    · exact quiet
  | programEndPass d =>
    simp only [exec, execProgramEndPass] at h
    split at h <;> cases h
    · exact (((idle d).trans (State.keepsWork_freed _ _)).trans (State.keepsWork_decideAtOnce _ _)).trans
        (State.keepsWork_settle _)
    · exact quiet
  | programEndFail d =>
    simp only [exec, execProgramEndFail] at h
    split at h <;> cases h
    · exact (((idle d).trans (State.keepsWork_programFailed _ _)).trans (State.keepsWork_decideAtOnce _ _)).trans
        (State.keepsWork_settle _)
    · exact quiet
  | eraseEndPass d =>
    simp only [exec, execEraseEndPass] at h
    split at h
    · next he =>
      cases h
      exact (quiet.trans (State.keepsWork_erasePassed _ d _ he)).trans (State.keepsWork_settle _)
    · cases h; exact quiet
  | eraseEndFail d =>
    simp only [exec, execEraseEndFail] at h
    split at h
    · next he =>
      cases h
      exact (quiet.trans (State.keepsWork_eraseFailed _ d _ he)).trans (State.keepsWork_settle _)
    · cases h; exact quiet
  | halted d =>
    simp only [exec, execHalted] at h
    split at h
    · next hs =>
      cases h
      exact (quiet.trans (State.owing_modifyDie _ d (fun x => x.pushHalted _ _) (Die.owing_pushHalted _ _ _ _ _ hs))).trans
        (State.keepsWork_settle _)
    · cases h; exact quiet
  | operationLimitExpiry d k =>
    simp only [exec, execOperationLimitExpiry] at h
    split at h <;> cases h
    · exact ((reach _).trans (State.keepsWork_goOffline _ _ _)).trans (State.keepsWork_settle _)
    · exact quiet
  | guardExpiry d =>
    simp only [exec, execGuardExpiry] at h
    split at h
    · next due hg =>
      cases h
      exact ((reach due).trans (State.owing_modifyDie _ d _ (Die.owing_guardPassed _ due hg))).trans
        (State.keepsWork_arbitrate _ _)
    · cases h; exact quiet
  | holdOffExpiry d =>
    simp only [exec, execHoldOffExpiry] at h
    split at h
    · next due hs =>
      cases h
      have paused : Die.Owing [] (s.die d) ((s.die d).withState (.halted none)) :=
        .of_same (by simp [Die.operations, Die.withState, hs]) rfl (.inl rfl) ⟨by simp [Die.withState], rfl⟩
      refine ((reach due).trans (State.owing_modifyDie _ d (fun x => x.withState (.halted none)) paused)).trans (State.keepsWork_decide _ d none ?_)
      simp [Die.withState]
    · cases h; exact quiet
  | _ => cases hc

/-! ## The ends of a die's reset -/

theorem State.keepsWork_endPhase (s : State) : s.KeepsWork s.endPhase := by
  unfold State.endPhase
  split
  · exact .refl s
  · exact State.PoolStep.keepsWork (.of_eq rfl rfl rfl rfl)

/-- A die that is neither running nor halting an operation has those of its halt context. -/
theorem Die.operations_of_resting {x : Die} (h : (∃ due, x.state = .starting due) ∨ ∃ r, x.state = .offline r) :
    x.operations = x.context.map ContextEntry.op := by
  rcases h with ⟨_, h⟩ | ⟨_, h⟩ <;> simp [Die.operations, h]

/-- The end of a restart owes its completion (R89). -/
theorem Die.owing_restartEnd {x y : Die} {t : Ticket} {due : Nat} (hx : x.state = .offline (some (t, due)))
    (ops : y.operations.Sublist x.operations) (queue : y.queuedErases.Sublist x.queuedErases)
    (restart : y.restartTicket = none) (idle : y.state = .ready ∨ y.isStarting = true → y.context = []) :
    Die.Owing [t] x y where
  law l := ⟨operationsFit_of_sublist ops l.1, idle⟩
  tickets l t' := by
    have erases := ((ops.filterMap ArrayOp.erase?).map EraseOp.ticket).count_le t'
    have queued := (queue.map EraseOp.ticket).count_le t'
    rw [Die.count_tickets l.1, Die.count_tickets (operationsFit_of_sublist ops l.1), restart]
    simp only [Die.restartTicket, hx, Option.toList_none, Option.toList_some, List.count_nil]
    omega

theorem workKept_resetEnd {d : DieIx} {s u : State} (h : exec (.resetEnd d) s = .next u) : s.WorkKept u := by
  have quiet : s.KeepsWork s.quiet := State.PoolStep.keepsWork (.of_eq rfl rfl rfl rfl)
  refine State.KeepsWork.workKept ?_
  simp only [exec, execResetEnd] at h
  split at h
  · next due hs =>
    cases h
    have ready : Die.Owing [] (s.die d) ((s.die d).withState .ready) := by
      refine .of_sublist ?_ (List.Sublist.refl _) (.inl rfl) fun l _ => l.2 (.inr (by simp [Die.isStarting, hs]))
      rw [Die.operations_of_resting (.inl ⟨_, hs⟩)]
      simp [Die.operations, Die.withState]
    exact ((quiet.trans (State.owing_modifyDie _ d (fun x => x.withState .ready) ready)).trans (State.keepsWork_endPhase _)).trans
      (State.keepsWork_arbitrate _ _)
  · next t due hs =>
    cases h
    refine State.KeepsWork.complete (quiet.append (State.owing_modifyDie s.quiet d (fun _ => Die.empty .ready)
      (Die.owing_restartEnd hs ?_ ?_ rfl fun _ => rfl)))
    · simp [Die.operations, Die.empty]
    · simp [Die.queuedErases, Die.empty]
  · cases h; exact quiet

theorem workKept_resetLimitExpiry {d : DieIx} {s u : State} (h : exec (.resetLimitExpiry d) s = .next u) :
    s.WorkKept u := by
  have quiet : s.KeepsWork s.quiet := State.PoolStep.keepsWork (.of_eq rfl rfl rfl rfl)
  have reach (due : Nat) : s.KeepsWork (s.quiet.reach due) := State.PoolStep.keepsWork (.of_eq rfl rfl rfl rfl)
  refine State.KeepsWork.workKept ?_
  have ops (h : (∃ due, (s.die d).state = .starting due) ∨ ∃ r, (s.die d).state = .offline r) :
      ((s.die d).withState (.offline none)).operations.Sublist (s.die d).operations := by
    rw [Die.operations_of_resting h]
    simp [Die.operations, Die.withState]
  simp only [exec, execResetLimitExpiry] at h
  split at h
  · next due hs =>
    cases h
    have offline : Die.Owing [] (s.die d) ((s.die d).withState (.offline none)) :=
      .of_sublist (ops (.inl ⟨_, hs⟩)) (List.Sublist.refl _) (.inl rfl) fun l _ =>
        l.2 (.inr (by simp [Die.isStarting, hs]))
    exact (((reach due).trans (State.owing_modifyDie _ d (fun x => x.withState (.offline none)) offline)).trans
      (State.poolStep_writeFault _ _).keepsWork).trans (State.keepsWork_endPhase _)
  · next t due hs =>
    cases h
    refine State.KeepsWork.complete (((reach due).append (State.owing_modifyDie _ d (fun x => x.withState (.offline none))
      (Die.owing_restartEnd hs (ops (.inr ⟨_, hs⟩)) (List.Sublist.refl _) rfl fun e => ?_))).trans
      (State.poolStep_writeFault _ _).keepsWork)
    simp [Die.withState, Die.isStarting] at e
  · cases h; exact quiet

/-! ## The management commands -/

theorem State.poolStep_giveMarks (s : State) (g : GlobalBlock) : s.PoolStep (s.giveMarks g) := .of_eq rfl rfl rfl rfl

/-- An admitted ERASE adds one queued erase to its die (R112). -/
theorem State.taking_admitErase (s : State) (g : GlobalBlock) (tk : Ticket) : s.Taking tk (s.admitErase g tk) := by
  refine State.Taking.trans (u := ((s.giveTicket tk).modifyBlock g fun b => { b with erase := .pending }).modifyDie
      (dieOf g) fun x => { x with workQueue := x.workQueue ++ [.erase (blockOf g) tk] })
    (s.taking_die (dieOf g) rfl (fun e h => ?_) rfl rfl (fun l => ?_) fun l t => ?_)
    ((State.poolStep_postEach (fun b => b.inBlock g) 12 _).trans (State.poolStep_giveMarks _ g)).keepsWork
  · simp [h]
  · simp only [State.die_modifyDie, if_true]
    exact l
  · have law : operationsFit (Die.operations { s.die (dieOf g) with
        workQueue := (s.die (dieOf g)).workQueue ++ [.erase (blockOf g) tk] }) = true := l.1
    simp only [State.die_modifyDie, if_true, State.die_modifyBlock, State.die_giveTicket]
    rw [Die.count_tickets law, Die.count_tickets l.1]
    simp only [Die.operations, Die.queuedErases, Die.restartTicket, List.filterMap_append, List.filterMap_cons,
      List.filterMap_nil, List.map_append, List.map_cons, List.map_nil, List.count_append]
    omega

theorem State.taking_admitFlush (s : State) (c : FlushScope) (tk : Ticket) : s.Taking tk (s.admitFlush c tk) := by
  refine State.Taking.trans (u := { s.giveTicket tk with
      flushes := s.flushes ++ [FlushRecord.mk tk c (bufferIndices.filter fun i => c.takes (s.buffer i))] })
    ⟨id, id, fun l t => ?_⟩
    ((State.poolStep_postEach c.takes 12 _).keepsWork.trans (State.keepsWork_completeFlushes _))
  have cons : (tk :: s.ticketsInUse).count t = [tk].count t + s.ticketsInUse.count t :=
    List.count_append (l₁ := [tk])
  rw [cons, State.count_ticketsInUse, State.count_ticketsInUse]
  have dies (d : DieIx) : ({ s.giveTicket tk with
      flushes := s.flushes ++ [FlushRecord.mk tk c (bufferIndices.filter fun i => c.takes (s.buffer i))] } : State).die d =
        s.die d := rfl
  simp only [dies]
  simp only [State.giveTicket_completions, List.map_append, List.map_cons, List.map_nil, List.count_append]
  omega

theorem State.taking_dieRestart (s : State) (d : DieIx) (tk : Ticket) (due : Nat) (hs : (s.die d).state = .offline none) :
    s.Taking tk (((s.giveTicket tk).modifyDie d fun x => x.withState (.offline (some (tk, due)))).send d .resetDie) := by
  have ops : ((s.die d).withState (.offline (some (tk, due)))).operations = (s.die d).operations := by
    rw [Die.operations_of_resting (.inr ⟨_, hs⟩)]
    simp [Die.operations, Die.withState]
  have law (l : (s.die d).ContextLaw) : ((s.die d).withState (.offline (some (tk, due)))).ContextLaw :=
    ⟨by rw [ops]; exact l.1, fun k => by simp [Die.withState, Die.isStarting] at k⟩
  refine s.taking_die d rfl (fun e h => ?_) rfl rfl (fun l => ?_) fun l t => ?_
  · simp [h]
  · simpa using law l
  · simp only [State.die_send, State.die_modifyDie, if_true, State.die_giveTicket]
    rw [Die.count_tickets (law l).1, Die.count_tickets l.1, ops]
    simp only [Die.queuedErases, Die.restartTicket, Die.withState, hs, Option.toList_none, Option.toList_some,
      List.count_nil]
    omega

end Sys2Proof.Machine
end

section
/-! The channel reset, the pins and the steps: the laws of the line buffers, of the halt context and of the tickets hold
after each (R4, R78, R160, R161, R174 to R180), and with the laws before them every law that the statements name. -/

namespace Sys2Proof.Machine

open Sys2Proof

/-! ## What a channel reset leaves -/

/-- An answer changes the table and the response list alone. -/
theorem State.answer_eq (s : State) (t : Tag) (c : RespCode) (data : Option (List Byte)) :
    s.answer t c data = { s with table := (s.answer t c data).table, responses := (s.answer t c data).responses } := by
  unfold State.answer
  split <;> rfl

theorem State.answerAll_eq (s : State) (ts : List Tag) (c : RespCode) :
    s.answerAll ts c = { s with table := (s.answerAll ts c).table, responses := (s.answerAll ts c).responses } := by
  unfold State.answerAll
  induction ts generalizing s with
  | nil => rfl
  | cons t ts ih =>
    rw [List.foldl_cons, ih (s.answerPlain t c), State.answerPlain, s.answer_eq t c none]

/-- The requests answered and the buffers discarded, a channel reset has changed no die, flush or completion yet. -/
theorem State.clearTraffic_shape (s : State) : ∃ table responses faultLog overflow sequence, s.clearTraffic = { s with
    table := table, responses := responses, mode := .resetting, buffers := Vector.replicate 12 .free, waitList := []
    faultLog := faultLog, overflow := overflow, sequence := sequence } := by
  unfold State.clearTraffic
  rw [s.answerAll_eq, State.writeFault_eq_recorded]
  exact ⟨_, _, _, _, _, rfl⟩

/-- The die controller as a channel reset leaves that of a fitted die (R90, R176). -/
def Die.channelReset (x : Die) (now : Nat) : Die :=
  Die.empty (if x.isOffline then .offline none else .starting (some (now + 200)))

theorem State.failUnfinished_eq (s : State) (d : DieIx) :
    s.failUnfinished d = { s with blocks := (s.failUnfinished d).blocks } := by
  have key (ops : List ArrayOp) (v : State) : ops.foldl (fun s (op : ArrayOp) => s.modifyBlock (globalBlock d op.block)
      fun b => { b with health := .failed, clean := false }) v =
      { v with blocks := (ops.foldl (fun s (op : ArrayOp) => s.modifyBlock (globalBlock d op.block)
        fun b => { b with health := .failed, clean := false }) v).blocks } := by
    induction ops generalizing v with
    | nil => rfl
    | cons op ops ih => rw [List.foldl_cons, ih]; rfl
  exact key _ s

theorem State.resetDie_eq (s : State) (d : DieIx) : s.resetDie d = { s with
    dies := s.dies.set d ((s.die d).channelReset s.now), blocks := (s.resetDie d).blocks, out := (s.resetDie d).out } := by
  unfold State.resetDie Die.channelReset
  split
  · rfl
  · rw [s.failUnfinished_eq]; rfl

theorem State.foldl_resetDie_eq (ds : List DieIx) (s : State) : ds.foldl State.resetDie s = { s with
    dies := (ds.foldl State.resetDie s).dies, blocks := (ds.foldl State.resetDie s).blocks
    out := (ds.foldl State.resetDie s).out } := by
  induction ds generalizing s with
  | nil => rfl
  | cons d ds ih => rw [List.foldl_cons, ih, s.resetDie_eq d]

theorem Die.channelReset_channelReset (x : Die) (now : Nat) : (x.channelReset now).channelReset now = x.channelReset now := by
  unfold Die.channelReset
  by_cases h : x.isOffline = true
  · simp only [h, if_true]; rfl
  · simp only [h]; rfl

theorem State.die_resetDie (s : State) (d e : DieIx) :
    (s.resetDie d).die e = if d = e then (s.die e).channelReset s.now else s.die e := by
  rw [s.resetDie_eq]
  refine (s.die_setDie d e ((s.die d).channelReset s.now)).trans ?_
  split
  · next h => rw [h]
  · rfl

theorem State.die_foldl_resetDie (ds : List DieIx) (s : State) (e : DieIx) :
    (ds.foldl State.resetDie s).die e = if e ∈ ds then (s.die e).channelReset s.now else s.die e := by
  induction ds generalizing s with
  | nil => rfl
  | cons d ds ih =>
    have now : (s.resetDie d).now = s.now := by rw [s.resetDie_eq]
    rw [List.foldl_cons, ih, now, s.die_resetDie]
    by_cases hd : d = e
    · subst hd
      simp [Die.channelReset_channelReset]
    · simp [hd, Ne.symm hd]

theorem State.mem_fittedIndices (s : State) (d : DieIx) : d ∈ s.fittedIndices ↔ s.fitted d = true := by
  simp only [State.fittedIndices, List.mem_filter, and_iff_right_iff_imp]
  exact fun _ => (by decide : ∀ d : DieIx, d ∈ dieIndices) d

theorem State.die_resetDies (s : State) (e : DieIx) :
    s.resetDies.die e = if s.fitted e = true then (s.die e).channelReset s.now else s.die e := by
  simp only [State.resetDies, State.die_mapBlocks, State.die_foldl_resetDie, State.mem_fittedIndices]

theorem State.resetDies_eq (s : State) : s.resetDies = { s with
    dies := s.resetDies.dies, blocks := s.resetDies.blocks, out := s.resetDies.out } := by
  unfold State.resetDies
  rw [State.foldl_resetDie_eq]
  rfl

theorem State.endPhase_eq (s : State) : s.endPhase = { s with mode := s.endPhase.mode } := by
  unfold State.endPhase
  split <;> rfl

/-! ## A channel reset keeps the laws -/

theorem Die.operations_empty (st : DieState) (h : (∃ due, st = .starting due) ∨ ∃ r, st = .offline r) :
    (Die.empty st).operations = [] := by
  rcases h with ⟨_, rfl⟩ | ⟨_, rfl⟩ <;> rfl

theorem Die.channelReset_cases (x : Die) (now : Nat) :
    x.channelReset now = Die.empty (.offline none) ∨ x.channelReset now = Die.empty (.starting (some (now + 200))) := by
  unfold Die.channelReset
  split
  · exact .inl rfl
  · exact .inr rfl

theorem Die.contextLaw_channelReset (x : Die) (now : Nat) : (x.channelReset now).ContextLaw := by
  rcases x.channelReset_cases now with e | e <;> rw [e] <;> exact ⟨rfl, fun _ => rfl⟩

theorem Die.tickets_channelReset (x : Die) (now : Nat) : (x.channelReset now).tickets = [] := by
  rcases x.channelReset_cases now with e | e <;> rw [e] <;> rfl

/-- The tickets that a channel reset cancels on the fitted dies, counted die by die (R175). -/
theorem State.count_cancelled (s : State) (t : Ticket) :
    ((s.allErases.map fun x => x.2.ticket) ++ s.allRestarts.map Prod.snd).count t =
      ∑ d : DieIx, if s.fitted d = true then (s.die d).tickets.count t else 0 := by
  have key (ds : List DieIx) :
      (((ds.filter s.fitted).flatMap fun d => (s.die d).admittedErases.map fun e => (d, e)).map fun x => x.2.ticket).count t
        + (((ds.filter s.fitted).filterMap fun d => (s.die d).restartTicket.map fun t => (d, t)).map Prod.snd).count t =
      (ds.map fun d => if s.fitted d = true then (s.die d).tickets.count t else 0).sum := by
    induction ds with
    | nil => rfl
    | cons d ds ih =>
      rw [List.map_cons, List.sum_cons, ← ih, List.filter_cons]
      split
      · have erases : ((s.die d).admittedErases.map fun e => (d, e)).map (fun x : DieIx × EraseOp => x.2.ticket) =
            (s.die d).admittedErases.map EraseOp.ticket := by simp
        rw [List.flatMap_cons, List.map_append, List.count_append, erases, Die.tickets, List.count_append,
          List.filterMap_cons]
        cases (s.die d).restartTicket with
        | none => simp; omega
        | some r => simp [List.count_cons]; omega
      · simp
  rw [List.count_append]
  refine (key dieIndices).trans ?_
  simp [dieIndices, Fin.sum_univ_four, add_assoc]

/-- The completion list that a channel reset leaves (R175). -/
def State.cancelledCompletions (s : State) : List Completion :=
  s.completions
    ++ (s.allErases.map fun x => eraseCompletion x.1 x.2 .cancelled)
    ++ (s.flushes.map fun f => f.completion .cancelled)
    ++ (s.allRestarts.map fun x => restartCompletion x.1 x.2 .cancelled)

theorem State.cancelTickets_eq (s : State) :
    s.cancelTickets = { s with completions := s.cancelledCompletions, flushes := [] } := rfl

/-- What a channel reset leaves of the pool, the tickets and the dies (R174 to R176). -/
theorem State.beginChannelReset_shape (s : State) :
    s.beginChannelReset.buffers = Vector.replicate 12 .free ∧ s.beginChannelReset.flushes = [] ∧
      s.beginChannelReset.completions = s.cancelledCompletions ∧
      ∀ d, s.beginChannelReset.die d = if s.fitted d = true then (s.die d).channelReset s.now else s.die d := by
  obtain ⟨table, responses, faultLog, overflow, sequence, cleared⟩ := s.clearTraffic_shape
  unfold State.beginChannelReset
  rw [cleared, State.cancelTickets_eq, State.endPhase_eq]
  refine ⟨?_, ?_, ?_, fun d => ?_⟩
  · rw [State.resetDies_eq]
  · rw [State.resetDies_eq]
  · rw [State.resetDies_eq]; rfl
  · exact State.die_resetDies _ d

theorem State.workKept_beginChannelReset (s : State) : s.WorkKept s.beginChannelReset := by
  obtain ⟨buffers, flushes, completions, die⟩ := s.beginChannelReset_shape
  generalize s.beginChannelReset = u at buffers flushes completions die
  have tickets : s.cancelledCompletions.map Completion.ticket = s.completions.map Completion.ticket ++
      (s.allErases.map fun x => x.2.ticket) ++ s.flushes.map FlushRecord.ticket ++ s.allRestarts.map Prod.snd := by
    simp [State.cancelledCompletions, Function.comp_def, eraseCompletion, FlushRecord.completion, restartCompletion]
  refine ⟨fun _ => ⟨fun i j _ h => absurd ?_ h, fun i p h => ?_⟩, fun l d => ?_,
    fun _ m => State.ticketLaw_of_count (fun t => ?_) m.1 m.2⟩
  · simp [State.buffer, buffers]
  · simp [State.buffer, buffers] at h
  · rw [die]
    split
    · exact (s.die d).contextLaw_channelReset s.now
    · exact l d
  · have cancelled := s.count_cancelled t
    have kept (d : DieIx) : (u.die d).tickets.count t + (if s.fitted d = true then (s.die d).tickets.count t else 0) =
        (s.die d).tickets.count t := by
      rw [die]
      split
      · simp [Die.tickets_channelReset]
      · simp
    have dies := Finset.sum_congr (s₁ := Finset.univ) rfl fun d (_ : d ∈ Finset.univ) => kept d
    rw [Finset.sum_add_distrib] at dies
    rw [State.count_ticketsInUse, State.count_ticketsInUse, flushes, completions, tickets]
    simp only [List.count_append, List.map_nil, List.count_nil] at cancelled ⊢
    omega

/-! ## Commands and steps -/

theorem State.workKept_action (s : State) (c : MgmtCommand) : s.WorkKept (actionOf c s).1 := by
  have same {u : State} (h : u = { s with
      settings := u.settings, regions := u.regions, blocks := u.blocks, ceilings := u.ceilings
      faultLog := u.faultLog, overflow := u.overflow }) : s.WorkKept u :=
    .of_eq (by rw [h]) (by rw [h]) (by rw [h]) (by rw [h])
  have busy {act : State → State × Answer} (h : s.WorkKept (act s).1) : s.WorkKept (State.unlessBusy act s).1 :=
    unlessBusy_keeps h (.refl s)
  cases c with
  | configure c h g o b e =>
    refine busy ?_
    unfold State.configure
    split <;> exact same rfl
  | regionWrite i v f l m e q =>
    refine busy ?_
    unfold State.regionWrite
    split
    · split <;> exact same rfl
    · exact same rfl
  | lock f l k =>
    refine busy ?_
    unfold State.lock
    split
    · split
      · split <;> exact same rfl
      · exact same rfl
    · exact same rfl
  | ceiling d v =>
    change s.WorkKept (State.ceiling d v s).1
    unfold State.ceiling
    split
    · exact same rfl
    · split
      · split
        · exact same (by rw [State.setCeiling_eq])
        · exact same rfl
      · exact same rfl
  | erase b =>
    refine busy ?_
    unfold State.erase
    split
    · exact .refl s
    · next g _ =>
      split
      · exact .refl s
      · next hr =>
        refine State.Taking.workKept ((s.taking_admitErase g s.nextTicket).trans (State.keepsWork_settle _)) fun full => ?_
        simp only [State.eraseRefusal, full, if_true] at hr
        split at hr
        · cases hr
        · split at hr
          · cases hr
          · split at hr
            · cases hr
            · split at hr <;> cases hr
  | flush c =>
    refine busy ?_
    unfold State.flush
    split
    · exact .refl s
    · split
      · exact .refl s
      · next hr => exact ((s.taking_admitFlush _ s.nextTicket).trans (State.keepsWork_settle _)).workKept hr
  | dieRestart d =>
    refine busy ?_
    unfold State.dieRestart
    split
    · exact .refl s
    · split
      · next hs =>
        split
        · exact .refl s
        · next hr => exact (s.taking_dieRestart _ s.nextTicket _ hs).workKept hr
      · exact .refl s
      · exact .refl s
  | faultRead =>
    change s.WorkKept s.faultRead.1
    unfold State.faultRead
    split <;> exact same rfl
  | faultClear => exact busy (same rfl)
  | completionRead =>
    change s.WorkKept s.completionRead.1
    unfold State.completionRead
    split
    · exact .refl s
    · next r rest hr =>
      refine ⟨id, id, fun _ m => State.ticketLaw_of_count (fun t => ?_) m.1 m.2⟩
      have dies (d : DieIx) : ({ s with completions := rest } : State).die d = s.die d := rfl
      rw [State.count_ticketsInUse, State.count_ticketsInUse, hr]
      simp only [dies, List.map_cons, List.count_cons]
      omega
  | channelReset => exact busy s.workKept_beginChannelReset
  | _ => exact .refl s

/-- Buffers all FREE and no die with an operation: the laws hold whatever they were before. -/
theorem State.workKept_of_reset {s u : State} (buffers : u.buffers = Vector.replicate 12 .free ∨ u.buffers = s.buffers)
    (dies : ∃ n due, u.dies = startingDies n due) (flushes : u.flushes = [] ∨ u.flushes = s.flushes)
    (completions : u.completions = [] ∨ u.completions = s.completions) : s.WorkKept u := by
  obtain ⟨n, due, dies⟩ := dies
  have die (d : DieIx) : u.die d = Die.empty (if d.val < n then .starting due else .absent) := by
    rw [← startingDies_getElem, ← dies]; rfl
  have none (d : DieIx) : (u.die d).tickets = [] := by
    rw [die]; split <;> rfl
  refine ⟨fun l => ?_, fun _ d => ?_, fun _ m => State.ticketLaw_of_count (fun t => ?_) m.1 m.2⟩
  · rcases buffers with e | e
    · refine ⟨fun i j _ h => absurd ?_ h, fun i p h => ?_⟩
      · simp [State.buffer, e]
      · simp [State.buffer, e] at h
    · exact l.congr fun i => by simp [State.buffer, e]
  · rw [die]
    split <;> exact ⟨rfl, fun _ => rfl⟩
  · rw [State.count_ticketsInUse, State.count_ticketsInUse]
    simp only [none, List.count_nil, Finset.sum_const_zero]
    have f : (u.flushes.map FlushRecord.ticket).count t ≤ (s.flushes.map FlushRecord.ticket).count t := by
      rcases flushes with e | e <;> simp [e]
    have c : (u.completions.map Completion.ticket).count t ≤ (s.completions.map Completion.ticket).count t := by
      rcases completions with e | e <;> simp [e]
    omega

theorem workKept_pin {c : Instr} {s u : State} (hc : c.isPin = true) (h : exec c s = .next u) : s.WorkKept u := by
  rcases exec_pin hc h with ⟨d, p, r, rfl | rfl⟩ | rfl | ⟨d, -, rfl⟩ | ⟨-, -, rfl⟩ | ⟨pin, rfl⟩ | ⟨pin, rfl⟩
  · exact State.workKept_of_reset (.inl rfl) ⟨_, _, rfl⟩ (.inl rfl) (.inl rfl)
  · rw [State.startUp_eq]; exact State.workKept_of_reset (.inl rfl) ⟨_, _, rfl⟩ (.inl rfl) (.inl rfl)
  · exact State.workKept_of_reset (.inl rfl) ⟨_, _, rfl⟩ (.inl rfl) (.inl rfl)
  · rw [State.startUp_eq]; exact State.workKept_of_reset (.inr rfl) ⟨_, _, rfl⟩ (.inr rfl) (.inr rfl)
  · exact .of_eq rfl rfl rfl rfl
  · exact .of_eq rfl rfl rfl rfl
  · exact .of_eq rfl rfl rfl rfl

theorem workKept_exec {c : Instr} {s u : State} (h : exec c s = .next u) : s.WorkKept u := by
  have port {v w : State} (k : v.PortOnly w) : v.WorkKept w := by
    obtain ⟨_, _, _, rfl⟩ := k
    exact .of_eq rfl rfl rfl rfl
  by_cases hp : c.isPin = true
  · exact workKept_pin hp h
  by_cases ht : c.isTraffic = true
  · exact workKept_traffic ht h
  by_cases hm : c.isManagement = true
  · rcases exec_management hm h with k | ⟨cmd, v, hv, -, hu⟩
    · exact port k
    · exact ((port hv).trans (v.workKept_action cmd)).trans (port hu)
  rcases c.resets_of_other (by simpa using hp) (by simpa using ht) (by simpa using hm) with ⟨d, rfl⟩ | ⟨d, rfl⟩
  · exact workKept_resetEnd h
  · exact workKept_resetLimitExpiry h

theorem workKept_step {s u : State} (h : step s = .next u) : s.WorkKept u := by
  unfold step at h
  split at h
  · cases h
    exact .of_eq rfl rfl rfl rfl
  · next c rest _ =>
    exact State.WorkKept.trans (u := { s with pending := rest }) (.of_eq rfl rfl rfl rfl) (workKept_exec h)

/-- Settles O58: the laws of the region table and of the fault log are `Law`s that the pins keep too, and the law of the
line buffers is kept by each operation that rewrites a buffer. -/
theorem regionAndFaultLogLawsKept : Obligations.RegionAndFaultLogLawsKept := by
  unfold Obligations.RegionAndFaultLogLawsKept
  intro s u h
  exact ⟨law_region.step h fun c v hc hv l => regionLaw_of_pin hc hv l,
    law_faultLog.step h fun c v hc hv l => faultLogLaw_of_pin hc hv l, (workKept_step h).pool⟩

/-- Settles O59: the laws of the port's room and of the order of acceptance are `Law`s that the pins keep too, and each
operation of a die keeps its halt context and gives or takes its tickets as the law of tickets says. -/
theorem portLawKept : Obligations.PortLawKept := by
  unfold Obligations.PortLawKept
  intro s u h
  exact ⟨law_port.step h fun c v hc hv l => portLaw_of_pin hc hv l,
    law_order.step h fun c v hc hv l => orderLaw_of_pin hc hv l, (workKept_step h).context, (workKept_step h).tickets⟩

end Sys2Proof.Machine
end

section
/-! The queue and the timebase, the resets and the values they leave, and the laws right after reset (chapters 4, 7 and
10; 00_scope.md section 5). -/

namespace Sys2Proof.Machine

open Sys2Proof

/-! ## The queue and the timebase -/

/-- Settles O1: a step with a command waiting is that command's meaning. -/
theorem stepRunsFrontCommand : Obligations.StepRunsFrontCommand := by
  unfold Obligations.StepRunsFrontCommand
  intro c rest s h
  simp only [step, h]

theorem State.isDue_iff (s : State) (due : Option Nat) : s.isDue due = true ↔ ∃ n, due = some n ∧ n ≤ s.now := by
  cases due <;> simp [State.isDue]

theorem mem_tagIndices (t : Tag) : t ∈ tagIndices := by revert t; decide

theorem mem_dieIndices (d : DieIx) : d ∈ dieIndices := by revert d; decide

/-- The timers of a die that are due (00_scope.md section 5, Time). -/
theorem State.mem_dueOnDie (s : State) (d : DieIx) (c : Instr) : c ∈ s.dueOnDie d ↔
    (∃ due, (s.die d).resetDue? = some due ∧ due ≤ s.now ∧ c = .resetLimitExpiry d) ∨
    (∃ k due report, (s.die d).limit d k = some (due, report) ∧ due ≤ s.now ∧ c = .operationLimitExpiry d k) ∨
    (∃ due, (s.die d).guardDue? = some due ∧ due ≤ s.now ∧ c = .guardExpiry d) ∨
    ∃ due, (s.die d).holdOffDue? = some due ∧ due ≤ s.now ∧ c = .holdOffExpiry d := by
  have one (due : Option Nat) (e : Instr) :
      (c ∈ if s.isDue due = true then [e] else []) ↔ ∃ n, due = some n ∧ n ≤ s.now ∧ c = e := by
    by_cases h : s.isDue due = true
    · obtain ⟨n, hn, hle⟩ := (s.isDue_iff due).mp h
      simp [hn, hle, (s.isDue_iff _).mpr ⟨n, rfl, hle⟩]
    · rw [if_neg h]
      simp only [List.not_mem_nil, false_iff]
      rintro ⟨n, hn, hle, -⟩
      exact h ((s.isDue_iff due).mpr ⟨n, hn, hle⟩)
  have kinds (k : LimitKind) : k ∈ [LimitKind.read, .program, .erase, .halt] := by cases k <;> decide
  have limits : (c ∈ ([LimitKind.read, .program, .erase, .halt].filter (s.limitIsDue d)).map (.operationLimitExpiry d)) ↔
      ∃ k due report, (s.die d).limit d k = some (due, report) ∧ due ≤ s.now ∧ c = .operationLimitExpiry d k := by
    simp only [List.mem_map, List.mem_filter, State.limitIsDue, s.isDue_iff, Option.map_eq_some_iff, Prod.exists]
    constructor
    · rintro ⟨k, ⟨-, n, ⟨due, report, h, rfl⟩, hle⟩, rfl⟩
      exact ⟨k, due, report, h, hle, rfl⟩
    · rintro ⟨k, due, report, h, hle, rfl⟩
      exact ⟨k, ⟨kinds k, due, ⟨due, report, h, rfl⟩, hle⟩, rfl⟩
  simp only [State.dueOnDie, List.mem_append, one, limits, or_assoc]

/-- What is due at a point of time, happening by happening. -/
theorem State.mem_dueHappenings (s : State) (c : Instr) : c ∈ s.dueHappenings ↔
    (∃ x, s.executing = some x ∧ x.due ≤ s.now ∧ c = x.command.completion) ∨
    (s.responses ≠ [] ∧ c = .responseDelivery) ∨
    (∃ t due, (s.request t).bind Request.holdDue = some due ∧ due ≤ s.now ∧ c = .holdTimerExpiry t) ∨
    (∃ i due, (s.buffer i).coalesceDue? = some due ∧ due ≤ s.now ∧ c = .coalesceTimerExpiry i) ∨
    ∃ d, c ∈ s.dueOnDie d := by
  have completion : (c ∈ match s.executing with
      | some x => if x.due ≤ s.now then [x.command.completion] else []
      | none => []) ↔ ∃ x, s.executing = some x ∧ x.due ≤ s.now ∧ c = x.command.completion := by
    cases s.executing with
    | none => simp
    | some x => by_cases h : x.due ≤ s.now <;> simp [h]
  have delivery : (c ∈ if s.responses.isEmpty = true then [] else [Instr.responseDelivery]) ↔
      s.responses ≠ [] ∧ c = .responseDelivery := by
    cases s.responses <;> simp
  simp only [State.dueHappenings, List.mem_append, delivery, List.mem_map, List.mem_filter, mem_tagIndices,
    State.mem_bufferIndices, true_and, s.isDue_iff, List.mem_flatMap, mem_dieIndices, or_assoc]
  refine or_congr completion (or_congr Iff.rfl (or_congr ?_ (or_congr ?_ Iff.rfl)))
  · exact exists_congr fun t => ⟨fun ⟨⟨n, h, hle⟩, e⟩ => ⟨n, h, hle, e.symm⟩, fun ⟨n, h, hle, e⟩ => ⟨⟨n, h, hle⟩, e.symm⟩⟩
  · exact exists_congr fun i => ⟨fun ⟨⟨n, h, hle⟩, e⟩ => ⟨n, h, hle, e.symm⟩, fun ⟨n, h, hle, e⟩ => ⟨⟨n, h, hle⟩, e.symm⟩⟩

/-- Settles O2: a tick moves the time by 1 and queues what `dueHappenings` lists, read entry by entry. -/
theorem stepTicksWhenIdle : Obligations.StepTicksWhenIdle := by
  unfold Obligations.StepTicksWhenIdle
  intro s h
  refine ⟨s.tick, by simp only [step, h], rfl, fun c => ?_⟩
  have queued : c ∈ s.tick.pending ↔ c ∈ ({ s.quiet with now := s.now + 1 } : State).dueHappenings := Iff.rfl
  rw [queued, State.mem_dueHappenings]
  simp only [State.mem_dueOnDie, exists_or]
  rfl

/-! ## Resets -/

/-- Settles O3: the fields of the reset state, one by one. -/
theorem resetValues : Obligations.ResetValues := by
  unfold Obligations.ResetValues
  refine ⟨rfl, rfl, fun t => ?_, rfl, fun i => ?_, fun i => ?_, rfl, rfl, rfl, fun g => ?_, fun d => ?_, fun d => ?_, rfl,
    rfl, rfl, rfl, rfl, rfl, rfl⟩
  · simp [State.reset, State.request]
  · simp [State.reset, RegionEntry.initial]
  · simp [State.reset, State.buffer]
  · simp [State.reset, State.block, BlockRecord.initial]
  · simp [State.reset, State.die, Die.empty, Config.resetLimit]
  · simp [State.reset]

/-- The fitted dies are the positions up to DCOUNT (R71). -/
theorem State.fittedIndices_eq (s : State) : s.fittedIndices = dieIndices.filter fun d => d.val ≤ s.dcount.toNat := by
  unfold State.fittedIndices
  congr 1
  funext d
  simp only [State.fitted, State.fittedDies, Nat.lt_succ_iff]

theorem State.die_startingDies {s : State} {n : Nat} {due : Option Nat} (h : s.dies = startingDies (n + 1) due)
    (d : DieIx) : s.die d = ⟨if d.val ≤ n then .starting due else .absent, [], [], [], 0⟩ := by
  have := startingDies_getElem (n + 1) due d
  rw [← h] at this
  refine this.trans ?_
  simp only [Nat.lt_succ_iff]
  rfl

/-- Settles O4: the power-on values are those of the reset state but for the pins, the dies and the outputs, and
start-up sends RESET_DIE to each fitted die. -/
theorem powerOnStartsUp : Obligations.PowerOnStartsUp := by
  unfold Obligations.PowerOnStartsUp
  intro dcount protnLow rstnLow s
  cases rstnLow with
  | true => exact ⟨s.poweredOn dcount protnLow true, rfl, rfl, fun d => State.die_startingDies rfl d, rfl⟩
  | false =>
    refine ⟨(s.poweredOn dcount protnLow false).startUp, rfl, ?_, fun d => ?_, ?_⟩
    · rw [State.startUp_eq]; rfl
    · exact State.die_startingDies (by rw [State.startUp_eq]; rfl) d
    · rw [State.startUp_eq, State.fittedIndices_eq]; rfl

/-- Settles O5: line reset takes the power-on values but for the fault log and the pins, and its end begins start-up. -/
theorem lineResetKeepsFaultLog : Obligations.LineResetKeepsFaultLog := by
  unfold Obligations.LineResetKeepsFaultLog
  intro s
  refine ⟨⟨_, rfl, rfl, fun d => State.die_startingDies rfl d⟩, fun dcount hr => ?_⟩
  refine ⟨{ s.quiet with rstnLow := false, dcount := dcount, protn := s.protnPin }.startUp, by exact if_pos hr, ?_, fun d => ?_⟩
  · rw [State.startUp_eq, State.fittedIndices_eq]; rfl
  · exact State.die_startingDies (by rw [State.startUp_eq]; rfl) d

/-- Settles O56: no request, no line, no operation and no ticket stands at reset, no region is valid, and every ceiling
is 0. -/
theorem lawsHoldAtReset : Obligations.LawsHoldAtReset := by
  unfold Obligations.LawsHoldAtReset
  have free (i : BufIx) : State.reset.buffer i = .free := by simp [State.reset, State.buffer]
  have die (d : DieIx) : State.reset.die d = Die.empty (.starting (some Config.resetLimit)) := by
    simp [State.reset, State.die]
  have unused : State.reset.ticketsInUse = [] := by
    have none (d : DieIx) : (State.reset.die d).tickets = [] := by rw [die]; rfl
    rw [List.eq_nil_iff_forall_not_mem]
    intro t ht
    have count := State.reset.count_ticketsInUse t
    simp only [none, List.count_nil, Finset.sum_const_zero] at count
    exact absurd (List.count_pos_iff.mpr ht) (by rw [count]; exact Nat.lt_irrefl 0)
  refine ⟨State.protnLaw_of_ceilings_zero fun d => by simp [State.reset], regionLaw_initial rfl, Nat.zero_le _,
    portLaw_empty rfl rfl, orderLaw_empty rfl, ⟨fun i j _ h => absurd (by rw [free]; rfl) h, fun i p h => ?_⟩, fun d => ?_, ?_⟩
  · rw [free] at h; cases h
  · rw [die]; exact ⟨rfl, fun _ => rfl⟩
  · rw [State.TicketLaw, unused]; exact ⟨Nat.zero_le _, List.nodup_nil⟩

/-! ## Protection -/

/-- Settles O6: the blocks after the assertion, with all else as it was. -/
theorem protnAssertionShutsPinnedBlocks : Obligations.ProtnAssertionShutsPinnedBlocks := by
  unfold Obligations.ProtnAssertionShutsPinnedBlocks
  intro s hr hp
  refine ⟨{ s.quiet.shutPinned with protnPin := true, protn := true }, ?_, rfl, fun g => s.quiet.block_shutPinned g⟩
  simp [exec, execProtnAssertion, hr, hp]

/-- Settles O7: neither release nor, while RSTN is low, assertion does more than set a level. -/
theorem protnReleaseKeepsLocks : Obligations.ProtnReleaseKeepsLocks := by
  unfold Obligations.ProtnReleaseKeepsLocks
  refine fun s => ⟨fun hr => ?_, fun hr => ⟨?_, ?_⟩⟩
  · exact if_neg (by simp [hr])
  · exact if_pos (.inl hr)
  · exact if_pos hr

end Sys2Proof.Machine
end

section
/-! The management port's commands from their actions: what the command in execution does when it completes, how the
bytes of an argument name a block, a die or a setting, and the statements about the frames, the queries, the settings,
the regions and the records (chapters 9 and 11). -/

namespace Sys2Proof.Machine

open Sys2Proof

/-! ## Completing -/

/-- The command in execution completes with its action and its reply (R152). -/
theorem exec_of_completing {c : MgmtCommand} {s : State} (h : s.completing c) (hc : c ≠ .malformed 0) :
    exec c.completion s = .next ((actionOf c s.quiet).1.conclude c (actionOf c s.quiet).2) := by
  rw [exec_completion c s hc, State.runCommand_quiet_of_completing h]

/-- The command in execution completes with an answer that changes nothing but the reply (R152). -/
theorem exec_of_answer {c : MgmtCommand} {s : State} {status : ReplyStatus} {fields : List Byte} (h : s.completing c)
    (hc : c ≠ .malformed 0) (ha : actionOf c s.quiet = (s.quiet, ⟨status, fields⟩)) :
    exec c.completion s = .next { s.replied c status fields with out := Outputs.none } := by
  rw [exec_of_completing h hc, ha]
  rfl

/-- In a running part the mode check refuses nothing (R156). -/
theorem State.unlessBusy_running {act : State → State × Answer} {s : State} (h : s.mode = .running) :
    State.unlessBusy act s = act s := by
  simp [State.unlessBusy, State.busyReason, h]

/-! ## Arguments -/

theorem blockOfWord_of_lt {w : BitVec 16} (h : w.toNat < 1024) : blockOfWord w = some ⟨w.toNat, h⟩ := dif_pos h

theorem blockOfWord_of_toNat_eq {w : BitVec 16} {g : GlobalBlock} (h : w.toNat = g.val) : blockOfWord w = some g := by
  simp [blockOfWord, h]

theorem blockOfWord_of_le {w : BitVec 16} (h : 1024 ≤ w.toNat) : blockOfWord w = none := dif_neg (by omega)

theorem dieOfByte_of_toNat_eq {b : Byte} {d : DieIx} (h : b.toNat = d.val) : dieOfByte b = some d := by
  simp [dieOfByte, h]

theorem dieOfByte_of_le {b : Byte} (h : 4 ≤ b.toNat) : dieOfByte b = none := dif_neg (by omega)

theorem bufferOfByte_of_toNat_eq {b : Byte} {i : BufIx} (h : b.toNat = i.val) : bufferOfByte b = some i := by
  simp [bufferOfByte, h]

theorem bufferOfByte_of_lt {b : Byte} (h : 11 < b.toNat) : bufferOfByte b = none := dif_neg (by omega)

theorem State.fittedDies_le (s : State) : s.fittedDies ≤ 4 := by
  have := s.dcount.isLt
  unfold State.fittedDies
  omega

theorem State.fitted_iff (s : State) (d : DieIx) : s.fitted d = true ↔ d.val < s.fittedDies := by
  simp [State.fitted]

/-- A global block of the fitted dies lies on a fitted die. -/
theorem State.fitted_dieOf_iff (s : State) (g : GlobalBlock) :
    s.fitted (dieOf g) = true ↔ g.val < s.fittedDies * 256 := by
  rw [s.fitted_iff, dieOf, Nat.div_lt_iff_lt_mul (by decide)]

theorem State.fittedBlock_of_toNat_eq {s : State} {w : BitVec 16} {g : GlobalBlock} (h : w.toNat = g.val)
    (hg : g.val < s.fittedDies * 256) : s.fittedBlock w = some g := by
  simp [State.fittedBlock, blockOfWord_of_toNat_eq h, (s.fitted_dieOf_iff g).2 hg]

theorem State.fittedBlock_of_le {s : State} {w : BitVec 16} (h : s.fittedDies * 256 ≤ w.toNat) :
    s.fittedBlock w = none := by
  unfold State.fittedBlock
  by_cases hw : w.toNat < 1024
  · have hf : ¬ s.fitted (dieOf ⟨w.toNat, hw⟩) = true := fun hf => by
      have := (s.fitted_dieOf_iff _).1 hf
      simp only at this
      omega
    simp [blockOfWord_of_lt hw, hf]
  · simp [blockOfWord_of_le (by omega : 1024 ≤ w.toNat)]

theorem State.fittedDie_of_toNat_eq {s : State} {b : Byte} {d : DieIx} (h : b.toNat = d.val)
    (hd : d.val < s.fittedDies) : s.fittedDie b = some d := by
  simp [State.fittedDie, dieOfByte_of_toNat_eq h, (s.fitted_iff d).2 hd]

theorem State.fittedDie_of_le {s : State} {b : Byte} (h : s.fittedDies ≤ b.toNat) : s.fittedDie b = none := by
  unfold State.fittedDie
  by_cases hb : b.toNat < 4
  · have hf : ¬ s.fitted ⟨b.toNat, hb⟩ = true := fun hf => absurd ((s.fitted_iff _).1 hf) (by simp; omega)
    simp [dieOfByte_of_toNat_eq (d := ⟨b.toNat, hb⟩) rfl, hf]
  · simp [dieOfByte_of_le (by omega : 4 ≤ b.toNat)]

/-- A 16-bit number is sent as its two bytes (chapter 11). -/
theorem twoBytes_toNat (w : BitVec 16) : twoBytes w.toNat = [hiByte w, loByte w] := by
  have hw := w.isLt
  have hi : byte (w.toNat / 256) = hiByte w := by
    apply BitVec.eq_of_toNat_eq
    simp [byte, hiByte, Nat.shiftRight_eq_div_pow]
  have lo : byte w.toNat = loByte w := by
    apply BitVec.eq_of_toNat_eq
    simp [byte, loByte]
  simp [twoBytes, hi, lo]

/-! ## Frames -/

theorem forall_byte {p : Byte → Bool}
    (h : (List.range 16).all (fun i => (List.range 16).all fun j => p (BitVec.ofNat 8 (16 * i + j))) = true) (b : Byte) :
    p b = true := by
  have hb := b.isLt
  have row := List.all_eq_true.mp h (b.toNat / 16) (List.mem_range.mpr (by omega))
  have entry := List.all_eq_true.mp row (b.toNat % 16) (List.mem_range.mpr (by omega))
  rw [Nat.div_add_mod] at entry
  simpa using entry

/-- A decoded command carries its command byte. The argument field is taken apart up to its longest form, so that the
decoder runs on each of the 256 command bytes. -/
theorem commandByte_parseArgs (b : Byte) (args : List Byte) :
    (parseArgs b args).all (fun c => c.commandByte == b) = true := by
  revert b
  rcases args with _ | ⟨_, _ | ⟨_, _ | ⟨_, _ | ⟨_, _ | ⟨_, _ | ⟨_, _ | ⟨_, _ | ⟨_, _ | ⟨_, _ | ⟨_, _⟩⟩⟩⟩⟩⟩⟩⟩⟩⟩
  all_goals exact forall_byte rfl

/-- The command that a frame spells carries the frame's first byte (section 11.1, R183). -/
theorem commandByte_parseFrame (b : Byte) (args : List Byte) (partialByte : Bool) :
    (parseFrame b args partialByte).commandByte = b := by
  have spelled := commandByte_parseArgs b args
  unfold parseFrame
  split
  · rfl
  · cases hp : parseArgs b args with
    | none => rfl
    | some c => simpa [hp] using spelled

theorem State.frameEnds_taken {s : State} {b : Byte} {args : List Byte} {partialByte : Bool} (hb : b ≠ 0)
    (hr : s.rstnLow = false) (he : s.executing = none) :
    s.frameEnds (b :: args) partialByte = s.takeCommand (parseFrame b args partialByte) := by
  unfold State.frameEnds
  simp only [if_neg hb, hr, he]
  rfl

theorem State.frameEnds_dropped {s : State} {b : Byte} {args : List Byte} {partialByte : Bool} (hb : b ≠ 0)
    (hr : s.rstnLow = false) (he : s.executing ≠ none) : s.frameEnds (b :: args) partialByte = s.dropFrame := by
  obtain ⟨x, hx⟩ := Option.ne_none_iff_exists'.mp he
  unfold State.frameEnds
  simp only [if_neg hb, hr, hx]
  rfl

theorem State.shiftReply_low {s : State} (hr : s.rstnLow = true) (n : Nat) : s.shiftReply n = s := if_pos hr

theorem State.shiftReply_high {s : State} (hr : s.rstnLow = false) (n : Nat) :
    s.shiftReply n = { s with out := { s.out with mdo := s.reply.shiftOut n } } := if_neg (by simp [hr])

theorem State.frameEnds_low {s : State} {b : Byte} {args : List Byte} {partialByte : Bool} (hr : s.rstnLow = true) :
    s.frameEnds (b :: args) partialByte = s := by
  simp only [State.frameEnds, State.shiftReply_low hr, if_pos hr, ite_self]

theorem State.runCommand_idle {s : State} {c : MgmtCommand} {act : State → State × Answer} (hr : s.rstnLow = false)
    (he : s.executing = none) :
    s.runCommand c act = (act (s.takeCommand c)).1.conclude c (act (s.takeCommand c)).2 := by
  simp only [State.runCommand, hr, he]
  rfl

theorem State.runCommand_dropped {s : State} {c : MgmtCommand} {act : State → State × Answer} {x : Executing}
    (hr : s.rstnLow = false) (hx : s.executing = some x) (hne : x.command ≠ c) : s.runCommand c act = s.dropFrame := by
  simp only [State.runCommand, hr, hx, if_neg hne]
  rfl

/-- Settles O41: each form of frame is one branch of the port, and the reply's codes are compared status by status. -/
theorem framesAreTakenOrDropped : Obligations.FramesAreTakenOrDropped := by
  unfold Obligations.FramesAreTakenOrDropped
  intro b args partialByte n s
  refine ⟨fun hb hr he => ?taken, fun hb hr he => ?dropped, rfl, rfl, fun hr => ⟨?low, ?lowReply⟩,
    fun status reason hr hcodes => ?reply, fun hb h => ?malformed⟩
  case taken =>
    refine congrArg Host.Outcome.next ((State.frameEnds_taken (s := s.quiet) hb hr he).trans ?_)
    rw [State.takeCommand, commandByte_parseFrame]
    rfl
  case dropped => exact congrArg Host.Outcome.next (State.frameEnds_dropped (s := s.quiet) hb hr he)
  case low => exact congrArg Host.Outcome.next (State.frameEnds_low (s := s.quiet) hr)
  case lowReply => exact congrArg Host.Outcome.next (State.shiftReply_low (s := s.quiet) hr n)
  case malformed => exact exec_of_answer (c := .malformed b) h (fun e => hb (by injection e)) rfl
  case reply =>
    have code : byte (s.reply.status.code + flagBit s.reply.dropped 7) =
        status + (if s.reply.dropped then 0x80 else 0x00) ∧ s.reply.status.reasonCode = reason := by
      revert hcodes
      cases s.reply.dropped <;> rcases s.reply.status with _ | _ | _ | r
      case false.refused | true.refused => cases r <;> rintro ⟨rfl, rfl⟩ <;> exact ⟨rfl, rfl⟩
      all_goals rintro ⟨rfl, rfl⟩; exact ⟨rfl, rfl⟩
    refine congrArg Host.Outcome.next ((State.shiftReply_high (s := s.quiet) hr n).trans ?_)
    simp only [Reply.shiftOut, Reply.encode, State.quiet_reply, code.1, code.2]
    rfl

/-- Settles O42: a completion happening takes the frame itself where no command is in execution, and discards it where
another is. -/
theorem completionRowsRun : Obligations.CompletionRowsRun := by
  unfold Obligations.CompletionRowsRun
  intro c s hc hr
  refine ⟨fun he => ?_, fun x hx hne => ?_⟩
  · rw [exec_completion c s hc, State.runCommand_idle (s := s.quiet) hr he]
    exact (exec_of_completing (s := { s with reply := _, executing := some ⟨c, s.now + 5⟩ }) ⟨hr, rfl⟩ hc).symm
  · rw [exec_completion c s hc, State.runCommand_dropped (s := s.quiet) hr hx hne]
    rfl

/-- Settles O55: the command byte of a frame selects its own row of the decoder, and a 16-bit field is the word of its
two bytes. -/
theorem frameDecodesToItsCommand : Obligations.FrameDecodesToItsCommand := by
  unfold Obligations.FrameDecodesToItsCommand
  intro c hc
  refine ⟨c.commandByte, c.arguments, rfl, ?_, ?_⟩
  · cases c with
    | malformed b => exact absurd rfl (hc b)
    | _ => simp [MgmtCommand.commandByte]
  · cases c with
    | malformed b => exact absurd rfl (hc b)
    | configure c h g o b e =>
      change MgmtCommand.configure (word16 (hiByte c) (loByte c)) (word16 (hiByte h) (loByte h))
        (word16 (hiByte g) (loByte g)) o b e = _
      simp only [word16_hiByte_loByte]
    | regionWrite i v f l m e p =>
      change MgmtCommand.regionWrite i v (word16 (hiByte f) (loByte f)) (word16 (hiByte l) (loByte l)) m e p = _
      simp only [word16_hiByte_loByte]
    | lock f l k => exact congrArg₂ (MgmtCommand.lock · · k) (word16_hiByte_loByte f) (word16_hiByte_loByte l)
    | ceiling d v => exact congrArg (MgmtCommand.ceiling d) (word16_hiByte_loByte v)
    | blockQuery b => exact congrArg MgmtCommand.blockQuery (word16_hiByte_loByte b)
    | erase b => exact congrArg MgmtCommand.erase (word16_hiByte_loByte b)
    | _ => rfl

/-! ## Refusals by mode -/

/-- Settles O48: the action of a command refused when busy looks at the part mode first. -/
theorem busyCommandsRefused : Obligations.BusyCommandsRefused := by
  unfold Obligations.BusyCommandsRefused
  intro s
  refine ⟨fun c hc h => ?_, fun die value old h hold hlarge => ?_⟩
  · obtain ⟨act, hact⟩ : ∃ act, actionOf c = State.unlessBusy act := by
      cases c <;> first | exact ⟨_, rfl⟩ | cases hc
    have hm : c ≠ .malformed 0 := by rintro rfl; cases hc
    refine ⟨fun mode => exec_of_answer h hm ?_, fun mode => exec_of_answer h hm ?_⟩
    all_goals rw [hact]; simp only [State.unlessBusy, State.busyReason, State.quiet_mode, mode, refusal]
  · have inForce : s.quiet.ceilingInForce die = old := by
      unfold State.ceilingInForce
      by_cases hd : die.toNat < 4
      · rw [dieOfByte_of_toNat_eq (d := ⟨die.toNat, hd⟩) rfl]
        exact (hold ⟨die.toNat, hd⟩ rfl).symm
      · rw [dieOfByte_of_le (by omega), hlarge (by omega)]
    refine ⟨fun mode => exec_of_answer (c := .ceiling die value) h nofun ?_,
      fun mode => exec_of_answer (c := .ceiling die value) h nofun ?_⟩
    all_goals simp only [actionOf, State.ceiling, State.busyReason, State.quiet_mode, mode, inForce]

/-! ## Settings -/

/-- Settles O46: the ranges of the settings, and the two interrupt enables as bits 0 and 1 of their byte. -/
theorem configureSetsAllOrNone : Obligations.ConfigureSetsAllOrNone := by
  unfold Obligations.ConfigureSetsAllOrNone
  intro coalesce hold guard holdOff budget enables s c h mode
  have bits : enables.toNat ≤ 3 → enables.getLsbD 0 = decide (enables.toNat % 2 = 1) ∧
      enables.getLsbD 1 = decide (2 ≤ enables.toNat) := by
    clear h c
    revert enables
    decide
  have action : actionOf c s.quiet = State.configure coalesce hold guard holdOff budget enables s.quiet :=
    State.unlessBusy_running mode
  split
  · next hin =>
    obtain ⟨h1, h2, h3, h4⟩ := hin
    have settings : settingsOfFields coalesce hold guard holdOff budget enables =
        some ⟨coalesce.toNat, hold.toNat, guard.toNat, holdOff.toNat, budget.toNat, enables.toNat % 2 = 1,
          2 ≤ enables.toNat⟩ := by
      unfold settingsOfFields
      rw [if_pos ⟨h1, h2, h3, by omega⟩, (bits h4).1, (bits h4).2]
    refine (exec_of_completing (c := c) h nofun).trans ?_
    rw [action, State.configure, settings]
    rfl
  · next hout =>
    refine exec_of_answer (c := c) h nofun (action.trans ?_)
    unfold State.configure settingsOfFields
    rw [if_neg fun ⟨h1, h2, h3, h4⟩ => hout ⟨h1, h2, h3, by omega⟩]
    rfl

end Sys2Proof.Machine
end

section
/-! The commands of protection, of the queries, of the region table, of the records and of a die's restart: what each
action does in each of its cases, and the statements from these (chapters 2, 4, 7 and 9). -/

namespace Sys2Proof.Machine

open Sys2Proof

/-! ## LOCK and CEILING -/

/-- The lock states that LOCK names are 0x00 and 0x01 (section 11.1). -/
theorem lockOfByte_eq {k : Byte} (h : k = 0x00 ∨ k = 0x01) :
    Lock.ofByte k = some (if k = 0x01 then .opened else .shut) := by
  rcases h with rfl | rfl <;> rfl

theorem lockOfByte_none {k : Byte} (h : k ≠ 0x00 ∧ k ≠ 0x01) : Lock.ofByte k = none := by
  unfold Lock.ofByte
  rw [if_neg h.1, if_neg h.2]

/-- Settles O8: with every check passed LOCK maps its range, block by block. -/
theorem lockSetsRange : Obligations.LockSetsRange := by
  unfold Obligations.LockSetsRange
  intro first last k s h mode hle hlast hk hopen
  have hlast' : last.toNat < 1024 := by have := s.fittedDies_le; omega
  have hfirst : first.toNat < 1024 := by omega
  let f : GlobalBlock := ⟨first.toNat, hfirst⟩
  let l : GlobalBlock := ⟨last.toNat, hlast'⟩
  let kind : Lock := if k = 0x01 then .opened else .shut
  have unpinned : ¬ (kind = .opened ∧ s.quiet.protn = true ∧ s.quiet.pinnedWithin f l = true) := by
    rintro ⟨hkind, hprotn, hpin⟩
    have hk1 : k = 0x01 := by
      by_contra hne
      exact absurd ((if_neg hne).symm.trans hkind) nofun
    obtain ⟨g, hf, hl, hg⟩ := (State.pinnedWithin_iff _ _ _).1 hpin
    exact absurd ((hopen hk1 hprotn g hf hl).symm.trans hg) nofun
  have action : actionOf (.lock first last k) s.quiet = (s.quiet.setLocks f l kind, doneBare) := by
    refine (State.unlessBusy_running (s := s.quiet) mode).trans ?_
    unfold State.lock
    rw [blockOfWord_of_lt hfirst, blockOfWord_of_lt hlast', lockOfByte_eq hk]
    simp only
    rw [if_pos ⟨hle, hlast⟩, if_neg unpinned]
  refine ⟨_, exec_of_completing (c := .lock first last k) h nofun, ?_, fun g => ?_⟩
  · rw [action]; rfl
  · rw [action]
    exact s.quiet.block_setLocks f l kind g

/-- Settles O9: with every check passed CEILING sets the ceiling, and shuts what it newly pins under an asserted
level. -/
theorem ceilingMovesOneWay : Obligations.CeilingMovesOneWay := by
  unfold Obligations.CeilingMovesOneWay
  intro d die value s h mode hd hfit hv hmove
  let v : Fin 257 := ⟨value.toNat, hv⟩
  have moves : (s.protn = true ∧ (s.ceilings[d]).val ≤ v.val) ∨ (s.protn = false ∧ v.val ≤ (s.ceilings[d]).val) := by
    split at hmove
    · next hp => exact .inl ⟨hp, hmove⟩
    · next hp => exact .inr ⟨by simpa using hp, hmove⟩
  have action : actionOf (.ceiling die value) s.quiet = (s.quiet.setCeiling d v, ⟨.done, twoBytes value.toNat⟩) := by
    have busy : s.quiet.busyReason = none := by simp [State.busyReason, mode]
    have fits : s.quiet.fittedDie die = some d := State.fittedDie_of_toNat_eq hd hfit
    have inRange : ceilingOfWord value = some v := dif_pos hv
    simp only [actionOf, State.ceiling, busy, fits, inRange]
    exact if_pos moves
  refine ⟨_, exec_of_completing (c := .ceiling die value) h nofun, ?_, fun g => ?_⟩
  · rw [action, State.setCeiling_eq, twoBytes_toNat]
    rfl
  · rw [action]
    exact s.quiet.block_setCeiling d v g

/-- A LOCK that fails check 2 is refused with BAD_ARGUMENT (R128). -/
theorem State.lock_badArgument {s : State} {first last : BitVec 16} {k : Byte}
    (h : last.toNat < first.toNat ∨ s.fittedDies * 256 ≤ last.toNat ∨ (k ≠ 0x00 ∧ k ≠ 0x01)) :
    State.lock first last k s = (s, refusal .badArgument) := by
  unfold State.lock
  split
  · next f l kind hf hl hk =>
    have hfirst : f.val = first.toNat := by
      unfold blockOfWord at hf; split at hf <;> cases hf; rfl
    have hlast : l.val = last.toNat := by
      unfold blockOfWord at hl; split at hl <;> cases hl; rfl
    refine if_neg ?_
    rw [hfirst, hlast]
    rintro ⟨hle, hlt⟩
    rcases h with h | h | h
    · omega
    · exact absurd (Nat.lt_of_lt_of_le hlt h) (Nat.lt_irrefl _)
    · rw [lockOfByte_none h] at hk
      cases hk
  · rfl

/-- A LOCK that opens a pinned block while PROTN is asserted is refused with PINNED (R128). -/
theorem State.lock_pinned {s : State} {first last : BitVec 16} {k : Byte} (hle : first.toNat ≤ last.toNat)
    (hlast : last.toNat < s.fittedDies * 256) (hk : k = 0x01) (hp : s.protn = true)
    (hpin : ∃ g : GlobalBlock, first.toNat ≤ g.val ∧ g.val ≤ last.toNat ∧ s.pinned g = true) :
    State.lock first last k s = (s, refusal .pinned) := by
  have hlast' : last.toNat < 1024 := by have := s.fittedDies_le; omega
  have hfirst : first.toNat < 1024 := by omega
  unfold State.lock
  rw [blockOfWord_of_lt hfirst, blockOfWord_of_lt hlast', lockOfByte_eq (.inr hk), if_pos hk]
  simp only
  rw [if_pos ⟨hle, hlast⟩, if_pos ⟨trivial, hp, (State.pinnedWithin_iff _ _ _).2 hpin⟩]

/-- A CEILING of an absent die or with a value above 256 is refused with BAD_ARGUMENT (R129). -/
theorem State.ceiling_badArgument {s : State} {die : Byte} {value : BitVec 16} (mode : s.mode = .running)
    (h : s.fittedDies ≤ die.toNat ∨ 256 < value.toNat) : State.ceiling die value s = (s, refusal .badArgument) := by
  have busy : s.busyReason = none := by simp [State.busyReason, mode]
  simp only [State.ceiling, busy]
  rcases h with h | h
  · rw [State.fittedDie_of_le h]
  · have : ceilingOfWord value = none := dif_neg (by omega)
    rw [this]
    cases s.fittedDie die <;> rfl

/-- A CEILING that moves against the PROTN level is refused with the ceiling that stays in force (R129). -/
theorem State.ceiling_protected {s : State} {die : Byte} {value : BitVec 16} {d : DieIx} (mode : s.mode = .running)
    (hd : die.toNat = d.val) (hfit : d.val < s.fittedDies) (hv : value.toNat < 257)
    (h : if s.protn then value.toNat < (s.ceilings[d]).val else (s.ceilings[d]).val < value.toNat) :
    State.ceiling die value s = (s, ⟨.refused .ceilingProtected, twoBytes (s.ceilings[d]).val⟩) := by
  have busy : s.busyReason = none := by simp [State.busyReason, mode]
  have inRange : ceilingOfWord value = some ⟨value.toNat, hv⟩ := dif_pos hv
  simp only [State.ceiling, busy, State.fittedDie_of_toNat_eq hd hfit, inRange]
  refine if_neg ?_
  rintro (⟨hp, hle⟩ | ⟨hp, hle⟩)
  · rw [if_pos hp] at h
    omega
  · rw [if_neg (by simp [hp])] at h
    omega

/-- Settles O10: each failing check of LOCK and of CEILING is one branch of its action. -/
theorem protectionCommandsRefused : Obligations.ProtectionCommandsRefused := by
  unfold Obligations.ProtectionCommandsRefused
  refine ⟨fun first last k s h mode => ⟨fun hbad => ?_, fun hle hlast hk hp hpin => ?_⟩,
    fun die value s h mode => ⟨fun hbad => ?_, fun d hd hfit hv hmove => ?_⟩⟩
  · exact exec_of_answer (c := .lock first last k) h nofun
      ((State.unlessBusy_running (s := s.quiet) mode).trans (State.lock_badArgument hbad))
  · exact exec_of_answer (c := .lock first last k) h nofun
      ((State.unlessBusy_running (s := s.quiet) mode).trans (State.lock_pinned hle hlast hk hp hpin))
  · exact exec_of_answer (c := .ceiling die value) h nofun (State.ceiling_badArgument (s := s.quiet) mode hbad)
  · exact exec_of_answer (c := .ceiling die value) h nofun
      (State.ceiling_protected (s := s.quiet) mode hd hfit hv hmove)

/-! ## Queries -/

theorem State.blockFields_quiet (s : State) (g : GlobalBlock) : s.quiet.blockFields g = s.blockFields g := rfl

/-- BLOCK_QUERY of a byte pair that names a fitted block answers with its fields (R158). -/
theorem exec_blockQuery {w : BitVec 16} {s : State} {g : GlobalBlock} (h : s.completing (.blockQuery w))
    (hg : s.fittedBlock w = some g) :
    exec (.blockQuery w) s =
      .next { s.replied (.blockQuery w) .done (s.blockFields g) with out := Outputs.none } :=
  exec_of_answer (c := .blockQuery w) h nofun
    (by simp only [actionOf, answering, show s.quiet.fittedBlock w = some g from hg]; rfl)

theorem exec_dieQuery {b : Byte} {s : State} {d : DieIx} (h : s.completing (.dieQuery b))
    (hd : s.fittedDie b = some d) :
    exec (.dieQuery b) s =
      .next { s.replied (.dieQuery b) .done (s.die d).queryFields with out := Outputs.none } :=
  exec_of_answer (c := .dieQuery b) h nofun
    (by simp only [actionOf, answering, show s.quiet.fittedDie b = some d from hd]; rfl)

theorem exec_bufferQuery {b : Byte} {s : State} {i : BufIx} (h : s.completing (.bufferQuery b))
    (hi : bufferOfByte b = some i) :
    exec (.bufferQuery b) s =
      .next { s.replied (.bufferQuery b) .done (s.buffer i).queryFields with out := Outputs.none } :=
  exec_of_answer (c := .bufferQuery b) h nofun (by simp only [actionOf, answering, hi]; rfl)

/-- The number of members of a written set, as a count of `true`. -/
theorem writtenCount_eq_count (w : ByteSet) : writtenCount w = w.toList.count true := by
  unfold writtenCount
  rw [List.count_eq_countP]
  congr 1
  funext b
  cases b <;> rfl

/-- A buffer is of a block exactly where the line it holds is. -/
theorem Buffer.inBlock_eq (b : Buffer) (g : GlobalBlock) :
    b.inBlock g = decide (b.line?.map LineAddr.global = some g) := by
  unfold Buffer.inBlock
  cases b.line? <;> simp [Bool.beq_eq_decide_eq]

/-- The flags byte of BLOCK_QUERY, bit by bit (section 11.3). -/
theorem blockFlags_eq (r : BlockRecord) (pinned : Bool) :
    flagBit (r.lock == .opened) 0 + flagBit pinned 1 + flagBit (r.health == .failed) 2 + flagBit r.clean 3 =
      (if r.lock = .opened then 1 else 0) + (if pinned then 2 else 0) + (if r.health = .failed then 4 else 0)
        + (if r.clean then 8 else 0) := by
  obtain ⟨lock, health, _, clean, _⟩ := r
  cases lock <;> cases health <;> rfl

theorem State.pinned_eq (s : State) (g : GlobalBlock) :
    s.pinned g = Decidable.decide (g.val % 256 < (s.ceilings[dieOf g]).val) := rfl

/-- Settles O45: each query is one branch of its action, and its fields are compared byte by byte. -/
theorem detailQueriesReport : Obligations.DetailQueriesReport := by
  unfold Obligations.DetailQueriesReport
  intro s
  refine ⟨fun block h => ⟨fun g hg hfit => ?block, fun hout => ?noBlock⟩,
    fun index h => ⟨fun i hi => ?buffer, fun hout => ?noBuffer⟩,
    fun die h => ⟨fun d hd hfit => ?die, fun hout => ?noDie⟩, fun h => ?config⟩
  case block =>
    intro r holders flags erase
    rw [exec_blockQuery h (State.fittedBlock_of_toNat_eq hg hfit)]
    have hf : flagBit (r.lock == .opened) 0 + flagBit (s.pinned g) 1 + flagBit (r.health == .failed) 2
        + flagBit r.clean 3 = flags := by
      rw [blockFlags_eq, s.pinned_eq]
      simp only [decide_eq_true_eq, flags, r]
    have he : r.erase.code = erase := by
      simp only [erase]
      cases r.erase <;> rfl
    have hh : (bufferIndices.filter fun i => (s.buffer i).inBlock g) = holders := by
      simp only [holders, Buffer.inBlock_eq]
    unfold State.blockFields
    simp only [show s.block g = r from rfl, hf, he, hh]
    rfl
  case noBlock =>
    exact exec_of_answer (c := .blockQuery block) h nofun
      (by simp only [actionOf, answering, State.fittedBlock_of_le (s := s.quiet) hout]; rfl)
  case buffer =>
    intro fields link
    rw [exec_bufferQuery h (bufferOfByte_of_toNat_eq hi)]
    congr 3
    cases s.buffer i with
    | free => rfl
    | loading l n held => rfl
    | filling l n b p due => cases p <;> simp only [fields, link, ← writtenCount_eq_count] <;> rfl
    | posted l n b p => cases p <;> simp only [fields, link, ← writtenCount_eq_count] <;> rfl
    | programming l n b a => simp only [fields, ← writtenCount_eq_count]; rfl
  case noBuffer =>
    exact exec_of_answer (c := .bufferQuery index) h nofun
      (by simp only [actionOf, answering, bufferOfByte_of_lt hout]; rfl)
  case die =>
    intro x state restarting outstanding entry
    rw [exec_dieQuery h (State.fittedDie_of_toNat_eq hd hfit)]
    have hs : x.state.code = state := by simp only [state]; cases x.state <;> rfl
    have hr : byte (flagBit x.restartTicket.isSome 0) = restarting := by
      simp only [restarting, Die.restartTicket]
      cases x.state with
      | offline r => cases r <;> rfl
      | _ => rfl
    have ho : x.readLength = x.readQueue.length + outstanding := by
      cases hx : x.state <;> simp [outstanding, Die.readLength, hx]
    have hc : ContextEntry.encode = entry := by
      funext c
      obtain ⟨op, budget⟩ := c
      cases op <;> rfl
    simp only [show s.die d = x from rfl, Die.queryFields, hs, hr, ho, hc]
    rfl
  case noDie =>
    exact exec_of_answer (c := .dieQuery die) h nofun
      (by simp only [actionOf, answering, State.fittedDie_of_le (s := s.quiet) hout]; rfl)
  case config =>
    refine exec_of_answer (c := .configRead) h nofun ?_
    simp only [actionOf, answering, State.quiet_settings, Settings.encode]
    cases s.settings.faultInterrupt <;> cases s.settings.completionInterrupt <;> rfl

/-! ## REGION_WRITE -/

/-- Each write mode, posting policy and flag is read back from the byte that sends it (section 11.5). -/
@[simp] theorem writeModeOfByte_code (m : WriteMode) : WriteMode.ofByte m.code = some m := by cases m <;> rfl

@[simp] theorem postingOfByte_code (q : Posting) : Posting.ofByte q.code = some q := by cases q <;> rfl

theorem flagOfByte_eq {b : Byte} (h : b = 0x00 ∨ b = 0x01) :
    flagOfByte b = some (Decidable.decide (b = 0x01)) := by
  rcases h with rfl | rfl <;> rfl

/-- A byte above the last value that its table lists is no value (R184). -/
theorem flagOfByte_none {b : Byte} (h : 1 < b.toNat) : flagOfByte b = none := by
  unfold flagOfByte
  rw [if_neg (by rintro rfl; simp at h), if_neg (by rintro rfl; simp at h)]

theorem postingOfByte_none {b : Byte} (h : 1 < b.toNat) : Posting.ofByte b = none := by
  unfold Posting.ofByte
  rw [if_neg (by rintro rfl; simp at h), if_neg (by rintro rfl; simp at h)]

theorem writeModeOfByte_none {b : Byte} (h : 2 < b.toNat) : WriteMode.ofByte b = none := by
  unfold WriteMode.ofByte
  rw [if_neg (by rintro rfl; simp at h), if_neg (by rintro rfl; simp at h), if_neg (by rintro rfl; simp at h)]

/-- The entry of arguments that are each in range, with the blocks in order (R32). -/
theorem regionOfFields_eq {valid mode erasePermitted posting : Byte} {first last : BitVec 16} {f l : GlobalBlock}
    {m : WriteMode} {q : Posting} (hf : first.toNat = f.val) (hl : last.toNat = l.val) (hle : f.val ≤ l.val)
    (hv : valid = 0x00 ∨ valid = 0x01) (hm : mode = m.code) (he : erasePermitted = 0x00 ∨ erasePermitted = 0x01)
    (hq : posting = q.code) :
    regionOfFields valid first last mode erasePermitted posting =
      some ⟨valid = 0x01, f, l, m, erasePermitted = 0x01, q⟩ := by
  subst hm hq
  unfold regionOfFields
  rw [flagOfByte_eq hv, blockOfWord_of_toNat_eq hf, blockOfWord_of_toNat_eq hl, flagOfByte_eq he,
    writeModeOfByte_code, postingOfByte_code]
  exact if_pos hle

/-- With an argument out of range or the blocks out of order there is no entry (R32 step 2, R184). -/
theorem regionOfFields_none {valid mode erasePermitted posting : Byte} {first last : BitVec 16}
    (h : 1023 < last.toNat ∨ last.toNat < first.toNat ∨ 1 < valid.toNat ∨ 2 < mode.toNat ∨
      1 < erasePermitted.toNat ∨ 1 < posting.toNat) :
    regionOfFields valid first last mode erasePermitted posting = none := by
  unfold regionOfFields
  split
  · next v f l m e p hv hf hl hm he hp =>
    have hfirst : f.val = first.toNat := by unfold blockOfWord at hf; split at hf <;> cases hf; rfl
    have hlast : l.val = last.toNat := by unfold blockOfWord at hl; split at hl <;> cases hl; rfl
    refine if_neg fun hle => ?_
    rcases h with h | h | h | h | h | h
    · omega
    · omega
    · rw [flagOfByte_none h] at hv; cases hv
    · rw [writeModeOfByte_none h] at hm; cases hm
    · rw [flagOfByte_none h] at he; cases he
    · rw [postingOfByte_none h] at hp; cases hp
  · rfl

/-- A new entry overlaps where another valid entry's range meets its own (R32 step 3). -/
theorem State.overlapsOther_iff (s : State) (i : Fin 8) (e : RegionEntry) :
    s.overlapsOther i e = true ↔ e.valid = true ∧ ∃ j : Fin 8, j ≠ i ∧ (s.regions[j]).valid = true ∧
      e.first.val ≤ (s.regions[j]).last.val ∧ (s.regions[j]).first.val ≤ e.last.val := by
  simp [State.overlapsOther, RegionEntry.overlaps, and_assoc]

/-- Settles O47: an entry in range is compared with every other valid entry, and then stored or refused. -/
theorem regionWriteStoresEntry : Obligations.RegionWriteStoresEntry := by
  unfold Obligations.RegionWriteStoresEntry
  intro index valid first last mode erasePermitted posting s c h running
  have action : actionOf c s.quiet =
      State.regionWrite index valid first last mode erasePermitted posting s.quiet :=
    State.unlessBusy_running (s := s.quiet) running
  refine ⟨fun i f l m q hi hf hl hle hv hm he hq apart => ?_, fun i j m q hi hle hl hv hm he hq hj hjv h₁ h₂ => ?_,
    fun hbad => ?_⟩
  · have clear : ¬ s.quiet.overlapsOther i ⟨valid = 0x01, f, l, m, erasePermitted = 0x01, q⟩ = true := by
      rw [State.overlapsOther_iff]
      rintro ⟨hvalid, j, hj, hjv, h₁, h₂⟩
      rcases apart (of_decide_eq_true hvalid) j hj hjv with h | h
      · exact absurd h (Nat.not_lt.2 h₁)
      · exact absurd h (Nat.not_lt.2 h₂)
    refine (exec_of_completing (c := c) h nofun).trans ?_
    rw [action, State.regionWrite, regionOfByte_of_toNat_eq hi, regionOfFields_eq hf hl hle hv hm he hq]
    simp only [if_neg clear]
    rfl
  · have hf' : first.toNat < 1024 := by omega
    have overlap : s.quiet.overlapsOther i
        ⟨valid = 0x01, ⟨first.toNat, hf'⟩, ⟨last.toNat, hl⟩, m, erasePermitted = 0x01, q⟩ = true :=
      (State.overlapsOther_iff _ _ _).2 ⟨decide_eq_true hv, j, hj, hjv, h₁, h₂⟩
    refine exec_of_answer (c := c) h nofun (action.trans ?_)
    rw [State.regionWrite, regionOfByte_of_toNat_eq hi,
      regionOfFields_eq (f := ⟨first.toNat, hf'⟩) (l := ⟨last.toNat, hl⟩) rfl rfl hle (.inr hv) hm he hq]
    simp only [if_pos overlap]
    rfl
  · refine exec_of_answer (c := c) h nofun (action.trans ?_)
    rw [State.regionWrite]
    rcases hbad with hi | hbad
    · rw [regionOfByte_of_seven_lt hi]; rfl
    · rw [regionOfFields_none hbad]
      cases regionOfByte index <;> rfl

/-! ## ERASE refused -/

theorem State.eraseRefusal_quiet (s : State) (g : GlobalBlock) : s.quiet.eraseRefusal g = s.eraseRefusal g := rfl

/-- The region of a block does not permit its erase (R111 check 4). -/
theorem eraseNotPermitted_iff (r : Option RegionEntry) :
    (r.all fun e => !e.erasePermitted) = true ↔ r.map RegionEntry.erasePermitted ≠ some true := by
  cases r <;> simp

/-- Settles O49: the checks of R111 are those of the model, in the same order. -/
theorem eraseRefusedInOrder : Obligations.EraseRefusedInOrder := by
  unfold Obligations.EraseRefusedInOrder
  intro block reason s h running hcheck
  refine exec_of_answer (c := .erase block) h nofun ((State.unlessBusy_running (s := s.quiet) running).trans ?_)
  unfold State.erase
  rcases hcheck with ⟨hout, rfl⟩ | ⟨g, hg, hfit, hfirst⟩
  · rw [State.fittedBlock_of_le (s := s.quiet) hout]
    rfl
  · have refused : s.quiet.eraseRefusal g = some reason := by
      rw [s.eraseRefusal_quiet]
      unfold State.eraseRefusal
      simp only [eraseNotPermitted_iff, s.ticketSpaceFull_iff]
      split at hfirst
      · next ho => rw [if_pos ho, hfirst]
      · next ho =>
        rw [if_neg ho]
        split at hfirst
        · next hp => rw [if_pos hp, hfirst]
        · next hp =>
          rw [if_neg hp]
          split at hfirst
          · next hl => rw [if_pos hl, hfirst]
          · next hl =>
            rw [if_neg hl]
            split at hfirst
            · next he => rw [if_pos he, hfirst]
            · next he => rw [if_neg he, if_pos hfirst.1, hfirst.2]
    rw [State.fittedBlock_of_toNat_eq (s := s.quiet) hg hfit]
    simp only [refused]
    rfl

/-! ## DIE_RESTART -/

/-- Settles O52: the die's state selects the branch, and the ticket is the first number not in use. -/
theorem dieRestartSendsReset : Obligations.DieRestartSendsReset := by
  unfold Obligations.DieRestartSendsReset
  intro die s h running
  have action : actionOf (.dieRestart die) s.quiet = State.dieRestart die s.quiet :=
    State.unlessBusy_running (s := s.quiet) running
  refine ⟨fun d hd hfit => ?_, fun hout => ?_⟩
  · intro x
    have fits : s.quiet.fittedDie die = some d := State.fittedDie_of_toNat_eq hd hfit
    refine ⟨fun hx hroom => ⟨s.nextTicket, s.nextTicket_not_mem hroom, s.nextTicket_of_free, ?_⟩, fun reason hr => ?_⟩
    · refine (exec_of_completing (c := .dieRestart die) h nofun).trans ?_
      have full : ¬ s.quiet.ticketSpaceFull = true := by
        rw [State.ticketSpaceFull_iff]
        exact Nat.not_le.2 hroom
      rw [action, State.dieRestart, fits]
      simp only [show (s.quiet.die d).state = .offline none from hx, if_neg full, show s.quiet.nextTicket = s.nextTicket from rfl]
      generalize s.nextTicket = tk
      rfl
    · refine exec_of_answer (c := .dieRestart die) h nofun (action.trans ?_)
      rw [State.dieRestart, fits]
      rcases hr with ⟨hx, hfull, rfl⟩ | ⟨⟨r, hx⟩, rfl⟩ | ⟨hx, rfl⟩
      · simp only [show (s.quiet.die d).state = .offline none from hx]
        rw [if_pos (s.quiet.ticketSpaceFull_iff.2 hfull)]
        rfl
      · simp only [show (s.quiet.die d).state = .offline (some r) from hx]
        rfl
      · have hx' : (s.quiet.die d).isOffline = false := hx
        unfold Die.isOffline at hx'
        split at hx'
        · cases hx'
        · next hne =>
          simp only
          split
          · next e => exact absurd e (hne _)
          · next e => exact absurd e (hne _)
          · rfl
  · refine exec_of_answer (c := .dieRestart die) h nofun (action.trans ?_)
    rw [State.dieRestart, State.fittedDie_of_le (s := s.quiet) hout]
    rfl

/-! ## Records -/

/-- The presence byte of a DIE_TIMEOUT record, bit by bit (section 11.4). -/
theorem timeoutPresence_eq (b l : Bool) :
    byte (0x06 + flagBit b 3 + flagBit l 4) = 0x06 + (if b then 0x08 else 0x00) + (if l then 0x10 else 0x00) := by
  cases b <;> cases l <;> rfl

/-- IRQN's level as its two causes (R167). -/
theorem State.irqnAsserted_iff (s : State) : s.irqnAsserted = true ↔ s.rstnLow = false ∧
    (s.settings.faultInterrupt = true ∧ s.faultLog ≠ [] ∨ s.settings.completionInterrupt = true ∧ s.completions ≠ []) := by
  simp [State.irqnAsserted]

/-- Settles O53: the two lists lose their heads, and each record kind is compared byte by byte. -/
theorem recordsAreReadOldestFirst : Obligations.RecordsAreReadOldestFirst := by
  unfold Obligations.RecordsAreReadOldestFirst
  intro s two line record completion
  have faultBytes (r : FaultRecord) : r.encode = record r := by
    obtain ⟨sequence, body⟩ := r
    cases body with
    | lineLost cause l n => cases cause <;> rfl
    | dieTimeout k d b l =>
      simp only [record, FaultRecord.encode, FaultBody.encode, timeoutPresence_eq]
      cases k <;> rfl
    | _ => rfl
  have completionBytes (c : Completion) : c.encode = completion c := by
    obtain ⟨ticket, kind, outcome, scope, block⟩ := c
    cases kind <;> cases outcome <;> cases scope <;> rfl
  refine ⟨fun h => ⟨fun r rest hlog => ?_, fun hlog => ?_⟩, fun h running => ?_,
    fun h => ⟨fun c rest hlist => ?_, fun hlist => ?_⟩, s.irqnAsserted_iff⟩
  · refine (exec_of_completing (c := .faultRead) h nofun).trans ?_
    simp only [actionOf, State.faultRead, State.quiet_faultLog, hlog, faultBytes]
    rfl
  · refine exec_of_answer (c := .faultRead) h nofun ?_
    simp only [actionOf, State.faultRead, State.quiet_faultLog, hlog]
  · refine (exec_of_completing (c := .faultClear) h nofun).trans ?_
    rw [show actionOf .faultClear s.quiet = State.faultClear s.quiet from
      State.unlessBusy_running (s := s.quiet) running]
    rfl
  · refine (exec_of_completing (c := .completionRead) h nofun).trans ?_
    simp only [actionOf, State.completionRead, State.quiet_completions, hlist, completionBytes]
    rfl
  · refine exec_of_answer (c := .completionRead) h nofun ?_
    simp only [actionOf, State.completionRead, State.quiet_completions, hlist]

end Sys2Proof.Machine
end

section
/-! The rules of the line buffers that other statements build on: what a write covers, the conflict checks, the merge,
and which buffer pressure posting takes (chapters 1 and 2). -/

namespace Sys2Proof.Machine

open Sys2Proof

/-! ## What a write covers -/

/-- The beat and the byte of it that stand at a position of the line (R138). -/
theorem Request.beatAt_of_write {r : Request} {beats : List Beat} (h : r.payload = .write beats) {p : Nat}
    (hp : r.position.val ≤ p) :
    r.beatAt p = beats[(p - r.position.val) / 8]?.map fun b => (b, Fin.ofNat 8 ((p - r.position.val) % 8)) := by
  simp [Request.beatAt, h, hp]

/-- Settles O19: the position is the quotient and the remainder that name its beat and its byte. -/
theorem writeCoversEnabledBytes : Obligations.WriteCoversEnabledBytes := by
  unfold Obligations.WriteCoversEnabledBytes
  intro r beats k b j hw hk
  have place : r.beatAt (r.position.val + 8 * k + j.val) = some (b, j) := by
    have hj := j.isLt
    have offset : r.position.val + 8 * k + j.val - r.position.val = 8 * k + j.val := by omega
    have quotient : (8 * k + j.val) / 8 = k := by omega
    have remainder : (8 * k + j.val) % 8 = j.val := by omega
    rw [Request.beatAt_of_write hw (by omega), offset, quotient, remainder, hk]
    simp
  refine ⟨by simp [Request.covers, place], by simp [Request.byteAt, place], fun p hp => ?_⟩
  have none : r.beatAt p = none := by
    rcases hp with hp | hp
    · simp [Request.beatAt, hw, Nat.not_le.2 hp]
    · rw [Request.beatAt_of_write hw (by omega), List.getElem?_eq_none (by omega)]
      rfl
  simp [Request.covers, none]

/-! ## The conflict checks -/

/-- A write passes the conflict check exactly where each byte it covers does (R44). -/
theorem Request.fits_iff (r : Request) (m : AdmittedMode) (body : LineBody) :
    r.fits m body = true ↔
      ∀ p : Fin 64, r.covers p.val = true → byteFits m (r.byteAt p.val) body.base[p] body.written[p] = true := by
  have read {α : Type} (v : Vector α 64) (d : α) (p : Fin 64) : v.toList.getD p.val d = v[p] := by
    simp [List.getD_eq_getElem?_getD]
  simp only [Request.fits, linePositions, List.all_eq_true, List.mem_range, Bool.or_eq_true, Bool.not_eq_true']
  refine ⟨fun h p hc => ?_, fun h p hp => ?_⟩
  · rcases h p.val p.isLt with hn | hf
    · simp [hc] at hn
    · rwa [read, read] at hf
  · have fit := h ⟨p, hp⟩
    rw [← read, ← read] at fit
    cases hc : r.covers p
    · exact .inl rfl
    · exact .inr (fit hc)

/-- A byte passes the COMBINE check where each of its one bits is one in the base (R45). -/
theorem byteFits_combine_iff (new base : Byte) (w : Bool) :
    byteFits .combine new base w = true ↔ ∀ k : Fin 8, new.getLsbD k.val = true → base.getLsbD k.val = true := by
  rw [byteFits, beq_iff_eq]
  refine ⟨fun h k hk => ?_, fun h => ?_⟩
  · have bit := congrArg (·.getLsbD k.val) h
    simpa [hk] using bit
  · refine BitVec.eq_of_getLsbD_eq fun i hi => ?_
    have bit := h ⟨i, hi⟩
    simp only [BitVec.getLsbD_and, BitVec.getLsbD_not, hi, decide_true, Bool.true_and]
    cases hn : new.getLsbD i
    · simp
    · simp [bit hn]

/-- A byte passes the APPEND_ONCE check where its base is 0xFF and its position is not written (R46). -/
theorem byteFits_appendOnce_iff (new base : Byte) (w : Bool) :
    byteFits .appendOnce new base w = true ↔ base = 0xFF ∧ w = false := by
  simp [byteFits]

/-- Settles O20: both checks byte by byte. -/
theorem conflictCheckRules : Obligations.ConflictCheckRules := by
  unfold Obligations.ConflictCheckRules
  intro r body
  simp only [Request.fits_iff, byteFits_combine_iff, byteFits_appendOnce_iff, and_self]

/-- Settles O21: image and written set are rewritten position by position. -/
theorem mergeOverlaysCoveredBytes : Obligations.MergeOverlaysCoveredBytes := by
  unfold Obligations.MergeOverlaysCoveredBytes
  intro r body
  refine ⟨rfl, fun p => ⟨?_, ?_⟩⟩
  · exact getElem_mapIndexed _ body.image p.val p.isLt
  · exact getElem_mapIndexed _ body.written p.val p.isLt

/-! ## The FILLING buffer of lowest open number -/

/-- The buffer is FILLING and satisfies `p`. -/
abbrev State.candidate (s : State) (p : Buffer → Bool) (i : BufIx) : Prop :=
  (s.buffer i).isFilling = true ∧ p (s.buffer i) = true

/-- The open number by which buffers are ordered. -/
def State.openNumber (s : State) (i : BufIx) : Nat := (s.buffer i).openNumber?.getD 0

theorem State.openNumber_of {s : State} {i : BufIx} {n : Nat} (h : (s.buffer i).openNumber? = some n) :
    s.openNumber i = n := by
  simp [State.openNumber, h]

theorem Buffer.isFilling_iff (b : Buffer) : b.isFilling = true ↔ ∃ l n body p due, b = .filling l n body p due := by
  cases b <;> simp [Buffer.isFilling]

/-- One step of the search over a list of buffers. -/
theorem State.lowestFilling_cons (s : State) (p : Buffer → Bool) (i : BufIx) (rest : List BufIx) :
    s.lowestFilling p (i :: rest) =
      if s.candidate p i then
        match s.lowestFilling p rest with
        | some j => if s.openNumber i < s.openNumber j then some i else some j
        | none => some i
      else s.lowestFilling p rest := by
  rw [State.lowestFilling]
  unfold State.candidate
  cases hb : s.buffer i with
  | filling l n body pr due =>
    cases s.lowestFilling p rest with
    | none => simp [Buffer.isFilling]
    | some j =>
      have number : s.openNumber i = n := State.openNumber_of (by rw [hb]; rfl)
      simp only [Buffer.isFilling, true_and, number]
      rfl
  | _ => simp [Buffer.isFilling]

/-- The search finds a candidate of lowest open number, and none only where there is no candidate. -/
theorem State.lowestFilling_spec (s : State) (p : Buffer → Bool) (l : List BufIx) :
    (∀ i, s.lowestFilling p l = some i →
      i ∈ l ∧ s.candidate p i ∧ ∀ j ∈ l, s.candidate p j → s.openNumber i ≤ s.openNumber j) ∧
    (s.lowestFilling p l = none → ∀ j ∈ l, ¬ s.candidate p j) := by
  induction l with
  | nil => simp [State.lowestFilling]
  | cons k rest ih =>
    obtain ⟨found, absent⟩ := ih
    rw [State.lowestFilling_cons]
    by_cases hk : s.candidate p k
    · rw [if_pos hk]
      cases hr : s.lowestFilling p rest with
      | none =>
        have alone := absent hr
        refine ⟨fun i hi => ?_, nofun⟩
        cases hi
        refine ⟨List.mem_cons_self, hk, fun j hj hc => ?_⟩
        rcases List.mem_cons.mp hj with rfl | hj
        · exact Nat.le_refl _
        · exact absurd hc (alone j hj)
      | some m =>
        obtain ⟨hm, hcm, least⟩ := found m hr
        simp only
        split
        · next hlt =>
          refine ⟨fun i hi => ?_, nofun⟩
          cases hi
          refine ⟨List.mem_cons_self, hk, fun j hj hc => ?_⟩
          rcases List.mem_cons.mp hj with rfl | hj
          · exact Nat.le_refl _
          · exact Nat.le_trans (Nat.le_of_lt hlt) (least j hj hc)
        · next hge =>
          refine ⟨fun i hi => ?_, nofun⟩
          cases hi
          refine ⟨List.mem_cons_of_mem _ hm, hcm, fun j hj hc => ?_⟩
          rcases List.mem_cons.mp hj with rfl | hj
          · exact Nat.le_of_not_lt hge
          · exact least j hj hc
    · rw [if_neg hk]
      refine ⟨fun i hi => ?_, fun hn j hj => ?_⟩
      · obtain ⟨hm, hc, least⟩ := found i hi
        refine ⟨List.mem_cons_of_mem _ hm, hc, fun j hj hcj => ?_⟩
        rcases List.mem_cons.mp hj with rfl | hj
        · exact absurd hcj hk
        · exact least j hj hcj
      · rcases List.mem_cons.mp hj with rfl | hj
        · exact hk
        · exact absent hn j hj

/-- With no candidate the search finds none. -/
theorem State.lowestFilling_eq_none {s : State} {p : Buffer → Bool} (h : ∀ i, ¬ s.candidate p i) (l : List BufIx) :
    s.lowestFilling p l = none := by
  cases hr : s.lowestFilling p l with
  | none => rfl
  | some i => exact absurd ((s.lowestFilling_spec p l).1 i hr).2.1 (h i)

/-- The candidate whose open number is below that of every other is the one the search finds. -/
theorem State.lowestFilling_eq_some {s : State} {p : Buffer → Bool} {i : BufIx} (hi : s.candidate p i)
    (least : ∀ j, j ≠ i → s.candidate p j → s.openNumber i < s.openNumber j) :
    s.lowestFilling p bufferIndices = some i := by
  obtain ⟨found, absent⟩ := s.lowestFilling_spec p bufferIndices
  cases hr : s.lowestFilling p bufferIndices with
  | none => exact absurd hi (absent hr i (State.mem_bufferIndices i))
  | some j =>
    obtain ⟨-, hj, low⟩ := found j hr
    by_contra hne
    have hji : j ≠ i := fun e => hne (by rw [e])
    exact absurd (low i (State.mem_bufferIndices i) hi) (Nat.not_le.2 (least j hji hj))

/-- Settles O18: the search over all buffers finds the one whose open number is below every other's. -/
theorem pressurePostsOldest : Obligations.PressurePostsOldest := by
  unfold Obligations.PressurePostsOldest
  intro s
  refine ⟨fun i n l body p due hb oldest => ?_, fun none => ?_⟩
  · have found : s.lowestFilling (fun _ => true) bufferIndices = some i := by
      refine State.lowestFilling_eq_some ⟨by rw [hb]; rfl, rfl⟩ fun j hj hc => ?_
      obtain ⟨k, hk, hlt⟩ := oldest j hj hc.1
      rw [State.openNumber_of (n := n) (by rw [hb]; rfl), State.openNumber_of hk]
      exact hlt
    rw [State.pressurePost, found]
  · have absent : s.lowestFilling (fun _ => true) bufferIndices = Option.none :=
      State.lowestFilling_eq_none (fun i hc => absurd hc.1 (by simp [none i])) _
    rw [State.pressurePost, absent]

/-! ## The head response -/

/-- Settles O25: the code and the detail value are compared response by response. -/
theorem headResponseIsDelivered : Obligations.HeadResponseIsDelivered := by
  unfold Obligations.HeadResponseIsDelivered
  intro r rest s hr code detail h
  have signals : r.signals = ⟨BitVec.ofNat 4 r.tag.val, code, detail, r.data.getD []⟩ := by
    obtain ⟨tag, c, data⟩ := r
    cases c with
    | refused d => cases d <;> obtain ⟨rfl, rfl⟩ := h <;> rfl
    | fault d => cases d <;> obtain ⟨rfl, rfl⟩ := h <;> rfl
    | _ => obtain ⟨rfl, rfl⟩ := h; rfl
  simp only [exec, execResponseDelivery, hr, signals]
  rfl

end Sys2Proof.Machine
end

section
/-! The die controllers' turn at the end of a happening: a controller at rest does nothing, a controller touches its own
die alone, and what each branch of the arbiter does (section 4.6, R79 to R81, R93, R98). -/

namespace Sys2Proof.Machine

open Sys2Proof

/-! ## A controller at rest -/

theorem State.serveWork_nil {s : State} {d : DieIx} (h : (s.die d).workQueue = []) : s.serveWork d = s := by
  simp [State.serveWork, h]

/-- A die controller that has nothing to do does nothing. -/
theorem State.arbitrate_of_atRest {s : State} {d : DieIx} (h : (s.die d).atRest = true) : s.arbitrate d = s := by
  unfold Die.atRest at h
  unfold State.arbitrate
  split at h <;> simp_all [State.serveWork]
  split <;> simp_all

/-! ## A controller touches its own die alone -/

theorem State.die_startProgram_of_ne (s : State) {d d' : DieIx} (i : BufIx) (h : d ≠ d') :
    (s.startProgram d i).die d' = s.die d' := by
  unfold State.startProgram
  split <;> simp [h]

theorem State.die_sendContinue_of_ne (s : State) {d d' : DieIx} (h : d ≠ d') :
    (s.sendContinue d).die d' = s.die d' := by
  unfold State.sendContinue
  split <;> simp [h]

theorem State.die_decide_of_ne (s : State) {d d' : DieIx} (h : d ≠ d') : (s.decide d).die d' = s.die d' := by
  unfold State.decide
  split
  · simp [h, s.die_startProgram_of_ne _ h]
  · exact s.die_sendContinue_of_ne h

theorem State.die_serveWork_of_ne (s : State) {d d' : DieIx} (h : d ≠ d') : (s.serveWork d).die d' = s.die d' := by
  unfold State.serveWork
  split
  · rfl
  · split
    · rfl
    · exact s.die_startProgram_of_ne _ h
  · split
    · split
      · exact s.die_startProgram_of_ne _ h
      · rfl
    · simp [State.startErase, h]

theorem State.die_arbitrate_of_ne (s : State) {d d' : DieIx} (h : d ≠ d') : (s.arbitrate d).die d' = s.die d' := by
  unfold State.arbitrate
  split
  · simp [State.sendRead, h]
  · exact s.die_serveWork_of_ne h
  · simp [State.sendRead, h]
  · unfold State.startHoldOff
    split
    · exact s.die_decide_of_ne h
    · simp [h]
  · simp [State.sendHalt, h]
  · simp [State.sendHalt, h]
  · rfl

/-! ## The turn of all controllers -/

theorem State.foldl_arbitrate_of_atRest {ds : List DieIx} {s : State} (h : ∀ d ∈ ds, (s.die d).atRest = true) :
    ds.foldl State.arbitrate s = s := by
  induction ds with
  | nil => rfl
  | cons d ds ih =>
    rw [List.foldl_cons, State.arbitrate_of_atRest (h d List.mem_cons_self)]
    exact ih fun e he => h e (List.mem_cons_of_mem _ he)

/-- With every controller at rest nothing is done. -/
theorem State.settle_of_atRest {s : State} (h : s.atRest) : s.settle = s :=
  State.foldl_arbitrate_of_atRest fun d _ => h d

theorem State.foldl_arbitrate_of_othersAtRest {ds : List DieIx} {d : DieIx} {s : State} (hd : d ∈ ds) (nodup : ds.Nodup)
    (h : ∀ e ∈ ds, e ≠ d → (s.die e).atRest = true) : ds.foldl State.arbitrate s = s.arbitrate d := by
  induction ds with
  | nil => cases hd
  | cons e ds ih =>
    obtain ⟨hnew, nodup⟩ := List.nodup_cons.mp nodup
    rw [List.foldl_cons]
    by_cases he : e = d
    · subst he
      refine State.foldl_arbitrate_of_atRest fun f hf => ?_
      have hne : f ≠ e := fun k => hnew (k ▸ hf)
      rw [s.die_arbitrate_of_ne hne.symm]
      exact h f (List.mem_cons_of_mem _ hf) hne
    · rw [State.arbitrate_of_atRest (h e List.mem_cons_self he)]
      exact ih ((List.mem_cons.mp hd).resolve_left (Ne.symm he)) nodup
        fun f hf => h f (List.mem_cons_of_mem _ hf)

/-- With every other controller at rest the turn is that of one die. -/
theorem State.settle_of_othersAtRest {s : State} {d : DieIx} (h : s.othersAtRest d) : s.settle = s.arbitrate d :=
  State.foldl_arbitrate_of_othersAtRest (mem_dieIndices d) (by decide) fun e _ he => h e he

/-- The other controllers are at rest where only the die of one differs from a state in which they are. -/
theorem State.othersAtRest_of_dies {s u : State} {d : DieIx} (h : s.othersAtRest d)
    (same : ∀ e, e ≠ d → u.die e = s.die e) : u.othersAtRest d := fun e he => by rw [same e he]; exact h e he

theorem State.settle_modifyDie {s u : State} {d : DieIx} {x : Die} (h : s.othersAtRest d)
    (dies : u.dies = s.dies.set d x) : u.settle = u.arbitrate d := by
  refine State.settle_of_othersAtRest (State.othersAtRest_of_dies h fun e he => ?_)
  have := State.die_setDie s d e x
  rw [if_neg (Ne.symm he)] at this
  rw [← this]
  simp [State.die, dies]

theorem State.die_of_dies {s u : State} {d : DieIx} {x : Die} (dies : u.dies = s.dies.set d x) : u.die d = x := by
  simp [State.die, dies]

/-! ## The branches of the arbiter -/

/-- A READY or HALTED die sends the head of its read queue (R79). -/
theorem State.arbitrate_read {s : State} {d : DieIx} {e : ReadEntry} {rest : List ReadEntry}
    (h : (s.die d).state = .ready ∨ ∃ holdOff, (s.die d).state = .halted holdOff)
    (hq : (s.die d).readQueue = e :: rest) : s.arbitrate d = s.sendRead d e rest := by
  unfold State.arbitrate
  rcases h with h | ⟨holdOff, h⟩ <;> rw [h, hq]

/-- A READY die with no read serves its work queue (R80, R81). -/
theorem State.arbitrate_work {s : State} {d : DieIx} (h : (s.die d).state = .ready) (hq : (s.die d).readQueue = []) :
    s.arbitrate d = s.serveWork d := by
  unfold State.arbitrate
  rw [h, hq]

/-- A HALTED die with no read starts its hold-off (R98). -/
theorem State.arbitrate_holdOff {s : State} {d : DieIx} (h : (s.die d).state = .halted none)
    (hq : (s.die d).readQueue = []) : s.arbitrate d = s.startHoldOff d := by
  unfold State.arbitrate
  rw [h, hq]

/-- A running operation whose guard has passed is halted for a waiting read (R93). -/
theorem State.arbitrate_halt {s : State} {d : DieIx} {op : ArrayOp} {due : Nat}
    (h : (s.die d).state = op.runningState due none) (hq : (s.die d).readQueue ≠ []) :
    s.arbitrate d = s.sendHalt d op due := by
  obtain ⟨e, rest, hq⟩ := List.exists_cons_of_ne_nil hq
  unfold State.arbitrate
  cases op <;> rw [h, hq] <;> rfl

/-- A running operation goes on while its guard runs, or with no read waiting (R93). -/
theorem State.arbitrate_running {s : State} {d : DieIx} {op : ArrayOp} {due : Nat} {guard : Option Nat}
    (h : (s.die d).state = op.runningState due guard) (hq : guard ≠ none ∨ (s.die d).readQueue = []) :
    s.arbitrate d = s := by
  refine State.arbitrate_of_atRest ?_
  unfold Die.atRest
  cases op <;> cases guard <;> simp_all [ArrayOp.runningState]

/-- The head of the work queue starts where it is a program with no predecessor (R80). -/
theorem State.serveWork_program {s : State} {d : DieIx} {i : BufIx} {rest : List WorkEntry}
    (hw : (s.die d).workQueue = .program i :: rest) (hl : (s.buffer i).predecessor? = none) :
    s.serveWork d = s.startProgram d i := by
  unfold State.serveWork
  rw [hw]
  exact if_neg (by simp [State.linked, hl])

/-- Starting the program of a POSTED buffer (R80, R85, R92). -/
theorem State.startProgram_posted {s : State} {d : DieIx} {i : BufIx} {l : LineAddr} {n : Nat} {body : LineBody}
    {p : Option BufIx} (hb : s.buffer i = .posted l n body p) :
    s.startProgram d i = { s with
      buffers := s.buffers.set i (.programming l n body 0)
      blocks := s.blocks.set l.global { s.block l.global with clean := false }
      dies := s.dies.set d { s.die d with
        state := .programming ⟨l.block, l.line, i⟩ (s.now + 3000) s.guardPoint
        workQueue := (s.die d).workQueue.erase (.program i) }
      out := { s.out with
        link := s.out.link ++ [(d, .programLine l.block l.line body.image (wordMask body.written))] } } := by
  unfold State.startProgram
  rw [hb]
  rfl

/-- Starting the program of a buffer that is PROGRAMMING already, a retry (R19, R80). -/
theorem State.startProgram_retry {s : State} {d : DieIx} {i : BufIx} {l : LineAddr} {n : Nat} {body : LineBody}
    {a : Fin 2} (hb : s.buffer i = .programming l n body a) :
    s.startProgram d i = { s with
      buffers := s.buffers.set i (.programming l n body a)
      blocks := s.blocks.set l.global { s.block l.global with clean := false }
      dies := s.dies.set d { s.die d with
        state := .programming ⟨l.block, l.line, i⟩ (s.now + 3000) s.guardPoint
        workQueue := (s.die d).workQueue.erase (.program i) }
      out := { s.out with
        link := s.out.link ++ [(d, .programLine l.block l.line body.image (wordMask body.written))] } } := by
  unfold State.startProgram
  rw [hb]
  rfl

theorem State.guardPoint_of_ne_zero {s : State} (h : s.settings.guardInterval ≠ 0) :
    s.guardPoint = some (s.now + s.settings.guardInterval) := if_neg h

theorem State.startHoldOff_of_ne_zero {s : State} {d : DieIx} (h : s.settings.holdOff ≠ 0) :
    s.startHoldOff d = s.modifyDie d fun x => x.withState (.halted (some (s.now + s.settings.holdOff))) := if_neg h

end Sys2Proof.Machine
end

section
/-! The host port: when a request is accepted, what an accepted request meets in the state, and the requests that are
answered, held or queued at their acceptance without touching a line buffer (chapters 2, 3 and 8). -/

namespace Sys2Proof.Machine

open Sys2Proof

/-! ## The port checks -/

theorem positionOfAddress_val (a : BitVec 27) : (positionOfAddress a).val = a.toNat % 64 := by
  simp [positionOfAddress, Config.lineBytes]

/-- The port checks, in order (R140). -/
theorem State.portCheck_eq (s : State) (t : Tag) (a : BitVec 27) (n : Nat) : s.portCheck t a n =
    if s.fittedDies * 33554432 ≤ a.toNat then some .address
    else if a.toNat % 8 ≠ 0 ∨ 64 < a.toNat % 64 + 8 * n then some .align
    else if (s.request t).isSome then some .duplicateTag
    else none := by
  simp only [State.portCheck, positionOfAddress_val]
  rfl

theorem beatsOk_of_le {n : Nat} (h₁ : 1 ≤ n) (h₈ : n ≤ 8) : beatsOk n = true := by
  simp [beatsOk, h₁, h₈]

/-- A write that HREQ can carry is presented to the port. -/
theorem exec_hostWrite {t : Tag} {a : BitVec 27} {beats : List Beat} {s : State} (h : beatsOk beats.length = true) :
    exec (.hostWrite t a beats) s = .next (s.quiet.acceptRequest t a (.write beats) State.writeArrives) := by
  rw [← State.present_write _ _ _ _ h]
  exact if_pos h

/-- A read that HREQ can carry is presented to the port. -/
theorem exec_hostRead {t : Tag} {a : BitVec 27} {n : Nat} {s : State} (h : beatsOk n = true) :
    exec (.hostRead t a n) s = .next (s.quiet.acceptRequest t a (.read n) State.readArrives) := by
  rw [← State.present_read _ _ _ _ h]
  exact if_pos h

theorem State.acceptRequest_low {s : State} (h : s.hrdy = false) (t : Tag) (a : BitVec 27) (p : Payload)
    (arrive : State → Tag → Request → State) : s.acceptRequest t a p arrive = s := if_neg (by simp [h])

theorem State.acceptRequest_fault {s : State} {t : Tag} {a : BitVec 27} {p : Payload} {detail : FaultDetail}
    (h : s.hrdy = true) (hc : s.portCheck t a p.beats = some detail) (arrive : State → Tag → Request → State) :
    s.acceptRequest t a p arrive = s.respond ⟨t, .fault detail, none⟩ := by
  unfold State.acceptRequest
  rw [if_pos h, hc]

theorem State.acceptRequest_taken {s : State} {t : Tag} {a : BitVec 27} {p : Payload} (h : s.accepts t a p.beats)
    (arrive : State → Tag → Request → State) :
    s.acceptRequest t a p arrive = arrive (s.setRequest t (some (s.accepted a p))) t (s.accepted a p) := by
  obtain ⟨hrdy, -, -, window, aligned, inLine, free⟩ := h
  have passes : s.portCheck t a p.beats = none := by
    rw [s.portCheck_eq, if_neg (Nat.not_le.2 window), if_neg (by omega), if_neg (by simp [free])]
  unfold State.acceptRequest
  rw [if_pos hrdy, passes]

theorem exec_hostWrite_of_accepts {t : Tag} {a : BitVec 27} {beats : List Beat} {s : State}
    (h : s.accepts t a beats.length) :
    exec (.hostWrite t a beats) s =
      .next ((s.quiet.setRequest t (some (s.newWrite a beats))).writeArrives t (s.newWrite a beats)) := by
  rw [exec_hostWrite (beatsOk_of_le h.2.1 h.2.2.1)]
  exact congrArg Host.Outcome.next (State.acceptRequest_taken (s := s.quiet) (p := .write beats) h _)

theorem exec_hostRead_of_accepts {t : Tag} {a : BitVec 27} {n : Nat} {s : State} (h : s.accepts t a n) :
    exec (.hostRead t a n) s =
      .next ((s.quiet.setRequest t (some (s.newRead a n))).readArrives t (s.newRead a n)) := by
  rw [exec_hostRead (beatsOk_of_le h.2.1 h.2.2.1)]
  exact congrArg Host.Outcome.next (State.acceptRequest_taken (s := s.quiet) (p := .read n) h _)

/-! ## HRDY -/

/-- The table read tag by tag. -/
theorem State.map_request (s : State) : tagIndices.map s.request = s.table.toList := by
  refine List.ext_getElem (by simp [tagIndices]) fun i h₁ h₂ => ?_
  have hi : i < 16 := by simpa using h₂
  have index : ∀ k : Fin 16, tagIndices[k.val]? = some k := by decide
  obtain ⟨_, at_i⟩ := List.getElem?_eq_some_iff.mp (index ⟨i, hi⟩)
  simp [at_i, State.request]

theorem State.outstandingCount_eq (s : State) :
    s.outstandingCount = (tagIndices.filter fun t => (s.request t).isSome).length := by
  rw [State.outstandingCount, ← s.map_request, List.countP_map, List.countP_eq_length_filter]
  rfl

theorem State.hrdy_iff (s : State) : s.hrdy = true ↔ s.rstnLow = false ∧ s.mode = .running ∧
    (tagIndices.filter fun t => (s.request t).isSome).length + s.responses.length < 16 := by
  simp [State.hrdy, s.outstandingCount_eq, Config.portRoom, and_assoc]

/-- Settles O11: HRDY as its three conditions, and the port checks in their order. -/
theorem portAcceptsOrAnswers : Obligations.PortAcceptsOrAnswers := by
  unfold Obligations.PortAcceptsOrAnswers
  intro s
  refine ⟨s.hrdy_iff, fun t a beats n h₁ h₈ hn => ⟨fun low => ?_, fun detail high hdetail => ?_⟩⟩
  · subst hn
    have ok := beatsOk_of_le h₁ h₈
    rw [exec_hostWrite ok, exec_hostRead ok]
    exact ⟨congrArg Host.Outcome.next (State.acceptRequest_low (s := s.quiet) low ..),
      congrArg Host.Outcome.next (State.acceptRequest_low (s := s.quiet) low ..)⟩
  · subst hn
    have ok := beatsOk_of_le h₁ h₈
    have fails : s.quiet.portCheck t a beats.length = some detail := by
      rw [State.portCheck_eq]
      split at hdetail
      · next hw => rw [if_pos (by exact hw), hdetail]
      · next hw =>
        rw [if_neg (by exact hw)]
        split at hdetail
        · next ha => rw [if_pos ha, hdetail]
        · next ha => rw [if_neg ha, if_pos (Option.isSome_iff_ne_none.2 (by exact hdetail.1)), hdetail.2]
    rw [exec_hostWrite ok, exec_hostRead ok]
    exact ⟨congrArg Host.Outcome.next (State.acceptRequest_fault (s := s.quiet) (p := .write beats) high fails _),
      congrArg Host.Outcome.next (State.acceptRequest_fault (s := s.quiet) (p := .read beats.length) high fails _)⟩

/-! ## Answers -/

/-- An outstanding request is answered: its entry is emptied and its response joins the list (R141, R148). -/
theorem State.answer_of_some {s : State} {t : Tag} {r : Request} (h : s.request t = some r) (code : RespCode)
    (data : Option (List Byte)) :
    s.answer t code data = { s with table := s.table.set t none, responses := s.responses ++ [⟨t, code, data⟩] } := by
  unfold State.answer
  rw [h]
  rfl

theorem State.answerRead_of_some {s : State} {t : Tag} {r : Request} (h : s.request t = some r) (line : LineImage) :
    s.answerRead t line =
      { s with table := s.table.set t none, responses := s.responses ++ [⟨t, .ok, some (r.readData line)⟩] } := by
  unfold State.answerRead
  rw [h]
  exact State.answer_of_some h ..

theorem State.table_set_request {s : State} {t : Tag} {r : Option Request} (h : s.request t = r) :
    s.table.set t r = s.table := by
  rw [← h]
  exact Vector.set_getElem_self _

/-- A request that was just accepted and is answered in the same happening leaves the table as it was. -/
theorem State.answer_fresh {s u : State} {t : Tag} {r : Request} (free : s.request t = none)
    (table : u.table = s.table.set t (some r)) (code : RespCode) (data : Option (List Byte)) :
    u.answer t code data = { u with table := s.table, responses := u.responses ++ [⟨t, code, data⟩] } := by
  have entry : u.request t = some r := by simp [State.request, table]
  rw [State.answer_of_some entry, table, Vector.set_set, State.table_set_request free]

theorem State.answerRead_fresh {s u : State} {t : Tag} {r : Request} (free : s.request t = none)
    (table : u.table = s.table.set t (some r)) (line : LineImage) :
    u.answerRead t line =
      { u with table := s.table, responses := u.responses ++ [⟨t, .ok, some (r.readData line)⟩] } := by
  have entry : u.request t = some r := by simp [State.request, table]
  unfold State.answerRead
  rw [entry]
  exact State.answer_fresh free table ..

/-! ## Admission -/

/-- A write that passes every step of admission is admitted (R36 to R43). -/
theorem State.verdict_of_admits {s : State} {r : Request} {m : AdmittedMode} (h : s.admits r m) :
    s.verdict r = .admitted m := by
  obtain ⟨live, healthy, unerased, unlocked, region, covers⟩ := h
  obtain ⟨e, he, hm⟩ := Option.map_eq_some_iff.mp region
  unfold State.verdict
  simp only [live, healthy, unerased, he]
  cases m <;> simp only at hm <;> simp [hm, unlocked, covers]

/-- The first step of admission that stops a write answers it (R36 to R38, R41 to R43). -/
theorem State.verdict_answered {s : State} {r : Request} {code : RespCode}
    (h : if (s.die r.line.die).isOffline then code = .fault .dieOffline
      else if (s.block r.line.global).health = .failed then code = .fault .blockFailed
      else if (s.block r.line.global).erase ≠ .none then False
      else match (s.regionOf r.line.global).map RegionEntry.mode with
        | none => code = .refused .noRegion
        | some .readOnly => code = .refused .readOnly
        | some _ =>
          if (s.block r.line.global).lock = .shut then code = .refused .locked
          else r.coversNothing = true ∧ code = .ok) : s.verdict r = .answered code := by
  unfold State.verdict
  dsimp only
  split at h
  · next ho => rw [if_pos ho, h]
  · next ho =>
    rw [if_neg ho]
    split at h
    · next hf => rw [if_pos hf, h]
    · next hf =>
      rw [if_neg hf]
      split at h
      · exact h.elim
      · next he =>
        rw [if_neg fun k => he k.1]
        cases hr : s.regionOf r.line.global with
        | none => simp only [hr, Option.map_none] at h; rw [h]
        | some e =>
          simp only [hr, Option.map_some] at h
          cases hm : e.mode with
          | readOnly => simp only [hm] at h ⊢; rw [h]
          | combine | appendOnce =>
            simp only [hm] at h ⊢
            split at h
            · next hl => rw [if_pos hl, h]
            · next hl => rw [if_neg hl, if_pos h.1, h.2]

/-- Settles O12: the write is answered in the happening of its acceptance, so that the table stands. -/
theorem writeAnsweredByAdmission : Obligations.WriteAnsweredByAdmission := by
  unfold Obligations.WriteAnsweredByAdmission
  intro t a beats s h r b code hcode
  obtain ⟨-, -, -, -, -, -, free⟩ := id h
  rw [exec_hostWrite_of_accepts h]
  have verdict : (s.quiet.setRequest t (some r)).verdict r = .answered code :=
    State.verdict_answered (s := s.quiet.setRequest t (some r)) hcode
  unfold State.writeArrives
  rw [verdict]
  exact congrArg Host.Outcome.next (State.answer_fresh (u := s.quiet.setRequest t (some r)) free rfl code none)

/-- Every outstanding request stands before one accepted now (R138). -/
theorem State.order_lt_accepted {s : State} (a : BitVec 27) (p : Payload) (t' : Tag) (r' : Request)
    (h : s.request t' = some r') : r'.order < (s.accepted a p).order := State.order_lt_nextOrder h

/-- Settles O13: admission step 4 sends the write to the hold list of its block. -/
theorem writeHeldByErase : Obligations.WriteHeldByErase := by
  unfold Obligations.WriteHeldByErase
  intro t a beats s h r b live healthy erasing
  refine ⟨?_, s.order_lt_accepted a (.write beats)⟩
  rw [exec_hostWrite_of_accepts h]
  have verdict : (s.quiet.setRequest t (some r)).verdict r = .held := by
    unfold State.verdict
    dsimp only
    rw [if_neg (by exact ne_of_eq_of_ne live nofun), if_neg (by exact ne_of_eq_of_ne healthy nofun)]
    exact if_pos ⟨erasing, rfl⟩
  unfold State.writeArrives
  rw [verdict]
  rfl

end Sys2Proof.Machine
end

section
/-! Read service at acceptance: the read steps do not look at the entry of the read itself, the newest image under the
law of the line buffers, and what each course leaves (chapter 3). -/

namespace Sys2Proof.Machine

open Sys2Proof

/-! ## What an accepted request does not change -/

theorem State.isWrite_setRequest_of_ne (s : State) {t x : Tag} (r : Option Request) (h : t ≠ x) :
    (s.setRequest t r).isWrite x = s.isWrite x := by
  simp [State.isWrite, h]

theorem State.isForLine_setRequest_of_ne (s : State) {t x : Tag} (r : Option Request) (l : LineAddr) (h : t ≠ x) :
    (s.setRequest t r).isForLine l x = s.isForLine l x := by
  simp [State.isForLine, h]

theorem any_congr_of_mem {α : Type} {l : List α} {p q : α → Bool} (h : ∀ x ∈ l, p x = q x) : l.any p = l.any q := by
  induction l with
  | nil => rfl
  | cons x xs ih =>
    rw [List.any_cons, List.any_cons, h x List.mem_cons_self, ih fun y hy => h y (List.mem_cons_of_mem _ hy)]

/-- Whether a write of the line waits does not depend on a tag outside the wait list. -/
theorem State.writeWaits_setRequest {s : State} {t : Tag} (r : Option Request) (l : LineAddr) (h : t ∉ s.waitList) :
    (s.setRequest t r).writeWaits l = s.writeWaits l :=
  any_congr_of_mem fun x hx => by
    have hne : t ≠ x := fun e => h (e ▸ hx)
    rw [s.isWrite_setRequest_of_ne r hne, s.isForLine_setRequest_of_ne r l hne]

theorem State.writeHeldInBlock_setRequest {s : State} {t : Tag} (r : Option Request) (l : LineAddr)
    (h : t ∉ (s.block l.global).holdList) : (s.setRequest t r).writeHeldInBlock l = s.writeHeldInBlock l :=
  any_congr_of_mem fun x hx => by
    have hne : t ≠ x := fun e => h (e ▸ hx)
    rw [s.isWrite_setRequest_of_ne r hne, s.isForLine_setRequest_of_ne r l hne]

theorem State.laterReadCourse_setRequest {s : State} {t : Tag} (q : Option Request) (r : Request)
    (h : t ∉ (s.block r.line.global).holdList) : (s.setRequest t q).laterReadCourse r = s.laterReadCourse r := by
  unfold State.laterReadCourse
  rw [State.writeHeldInBlock_setRequest q r.line h]
  rfl

/-- The read steps place an accepted read as the state before its acceptance gives. -/
theorem State.readCourse_accepted {s : State} {t : Tag} {r : Request} (h : s.tagFree t r.line) :
    (s.quiet.setRequest t (some r)).readCourse r = s.readCourse r := by
  unfold State.readCourse
  rw [State.writeWaits_setRequest (s := s.quiet) _ _ h.1, State.laterReadCourse_setRequest (s := s.quiet) _ _ h.2]
  rfl

theorem State.readArrives_of_course {s : State} {t : Tag} {r : Request} {c : ReadCourse} (h : s.readCourse r = c)
    (hc : c ≠ .array) : s.readArrives t r = s.takeRead t r c := by
  unfold State.readArrives
  rw [h]
  cases c <;> first | rfl | exact absurd rfl hc

theorem State.readArrives_array {s : State} {t : Tag} {r : Request} (h : s.readCourse r = .array) :
    s.readArrives t r = (s.queueArrayRead t).arbitrate r.line.die := by
  unfold State.readArrives
  rw [h]

/-- An accepted read takes the course the read steps give. -/
theorem exec_hostRead_of_course {t : Tag} {a : BitVec 27} {n : Nat} {s : State} {c : ReadCourse}
    (h : s.accepts t a n) (free : s.tagFree t (s.newRead a n).line) (hc : s.readCourse (s.newRead a n) = c)
    (array : c ≠ .array) :
    exec (.hostRead t a n) s =
      .next ((s.quiet.setRequest t (some (s.newRead a n))).takeRead t (s.newRead a n) c) := by
  rw [exec_hostRead_of_accepts h, State.readArrives_of_course ((State.readCourse_accepted free).trans hc) array]

/-! ## The read steps -/

theorem State.readCourse_of_later {s : State} {r : Request} (h : s.writeWaits r.line = false) :
    s.readCourse r = s.laterReadCourse r := if_neg (by simp [h])

/-- Past the held lists and the hold list a read is answered from an image, or goes to the array (R60 to R64). -/
theorem State.laterReadCourse_past {s : State} {r : Request} (loading : s.loadingBuffer r.line = none)
    (erase : (s.block r.line.global).erase = .none) :
    s.laterReadCourse r =
      match s.newestImage r.line with
      | some image => .answered image
      | none =>
        if (s.block r.line.global).clean then .answered erasedLine
        else if (s.die r.line.die).isOffline then .offline
        else .array := by
  have held : (if s.writeHeldInBlock r.line then none else s.loadingBuffer r.line) = none := by
    rw [loading, ite_self]
  unfold State.laterReadCourse
  rw [held]
  exact (if_neg fun k => k.1 erase).trans rfl

/-! ## The newest image -/

/-- A buffer outside PROGRAMMING that holds a line is the one a request of the line meets (R4). -/
theorem State.PoolLaw.openBuffer_eq {s : State} (l : s.PoolLaw) {i : BufIx} {line : LineAddr}
    (hi : (s.buffer i).line? = some line) (hp : (s.buffer i).isProgramming = false) : s.openBuffer line = some i := by
  cases ho : s.openBuffer line with
  | none => exact absurd (State.openBuffer_none ho i hi) (by simp [hp])
  | some j =>
    obtain ⟨hj, hpj⟩ := State.openBuffer_some ho
    by_contra hne
    have hij : i ≠ j := fun e => hne (by rw [e])
    rcases l.1 i j hij (by simp [hi]) (hi.trans hj.symm) with ⟨h, -⟩ | ⟨h, -⟩
    · simp [hp] at h
    · simp [hpj] at h

theorem State.openBuffer_eq_none {s : State} {line : LineAddr}
    (h : ∀ j, (s.buffer j).line? = some line → (s.buffer j).isProgramming = true) : s.openBuffer line = none := by
  cases ho : s.openBuffer line with
  | none => rfl
  | some j =>
    obtain ⟨hj, hpj⟩ := State.openBuffer_some ho
    exact absurd (h j hj) (by simp [hpj])

theorem State.programmingBuffer_eq_none {s : State} {line : LineAddr} (h : ∀ j, (s.buffer j).line? ≠ some line) :
    s.programmingBuffer line = none := by
  cases hp : s.programmingBuffer line with
  | none => rfl
  | some j => exact absurd (State.programmingBuffer_some hp).1 (h j)

theorem State.programmingBuffer_eq_some {s : State} {line : LineAddr} {i : BufIx}
    (hi : (s.buffer i).line? = some line) (hp : (s.buffer i).isProgramming = true)
    (alone : ∀ j, j ≠ i → (s.buffer j).line? ≠ some line) : s.programmingBuffer line = some i := by
  cases h : s.programmingBuffer line with
  | none => exact absurd (State.programmingBuffer_none h i hi) (by simp [hp])
  | some j =>
    by_contra hne
    exact alone j (fun e => hne (by rw [e])) (State.programmingBuffer_some h).1

theorem State.newestImage_of_open {s : State} {line : LineAddr} {i : BufIx} {body : LineBody}
    (ho : s.openBuffer line = some i) (hb : (s.buffer i).body? = some body) : s.newestImage line = some body.image := by
  simp [State.newestImage, ho, hb]

theorem State.newestImage_of_programming {s : State} {line : LineAddr} {i : BufIx} {body : LineBody}
    (ho : s.openBuffer line = none) (hp : s.programmingBuffer line = some i) (hb : (s.buffer i).body? = some body) :
    s.newestImage line = some body.image := by
  simp [State.newestImage, ho, hp, hb]

theorem State.newestImage_none {s : State} {line : LineAddr} (ho : s.openBuffer line = none)
    (hp : s.programmingBuffer line = none) : s.newestImage line = none := by
  simp [State.newestImage, ho, hp]

/-! ## Reads answered and reads that wait -/

theorem State.newRead_readData (s : State) (a : BitVec 27) (n : Nat) (line : LineImage) :
    (s.newRead a n).readData line = (line.toList.drop (a.toNat % 64)).take (8 * n) := by
  rw [← positionOfAddress_val]
  rfl

/-- A read that stays in its line reads 0xFF alone from a clean block (R62). -/
theorem State.newRead_readData_erased (s : State) {a : BitVec 27} {n : Nat} (h : a.toNat % 64 + 8 * n ≤ 64) :
    (s.newRead a n).readData erasedLine = List.replicate (8 * n) 0xFF := by
  rw [s.newRead_readData]
  simp only [erasedLine, Vector.toList_replicate, List.drop_replicate, List.take_replicate]
  congr 1
  omega

/-- Settles O22: the newest image is that of the one buffer the law of the line buffers leaves. -/
theorem readAnsweredAtOnce : Obligations.ReadAnsweredAtOnce := by
  unfold Obligations.ReadAnsweredAtOnce
  intro t a n s h r answered bytes pool free waits loading erase
  have course := (State.readCourse_of_later waits).trans (State.laterReadCourse_past loading erase)
  obtain ⟨-, -, -, -, -, inLine, none⟩ := id h
  have fromImage (image : LineImage) (hi : s.newestImage r.line = some image) : answered .ok (bytes image) := by
    have taken : s.readCourse r = .answered image := by rw [course, hi]
    refine (exec_hostRead_of_course h free taken nofun).trans ?_
    refine (congrArg Host.Outcome.next (State.answerRead_fresh (u := s.quiet.setRequest t (some r)) none rfl image)).trans ?_
    rw [s.newRead_readData]
    rfl
  refine ⟨fun i k body p due hb => ?_, fun i k body attempt hb alone => ?_, fun absent => ⟨fun clean => ?_,
    fun dirty offline => ?_⟩⟩
  · have facts : (s.buffer i).line? = some r.line ∧ (s.buffer i).isProgramming = false ∧
        (s.buffer i).body? = some body := by
      rcases hb with hb | hb <;> rw [hb] <;> exact ⟨rfl, rfl, rfl⟩
    obtain ⟨hline, hprog, hbody⟩ := facts
    exact fromImage _ (State.newestImage_of_open (pool.openBuffer_eq hline hprog) hbody)
  · have facts : (s.buffer i).line? = some r.line ∧ (s.buffer i).isProgramming = true ∧
        (s.buffer i).body? = some body := by
      rw [hb]; exact ⟨rfl, rfl, rfl⟩
    obtain ⟨hline, hprog, hbody⟩ := facts
    refine fromImage _ (State.newestImage_of_programming (State.openBuffer_eq_none fun j hj => ?_)
      (State.programmingBuffer_eq_some hline hprog alone) hbody)
    by_cases hji : j = i
    · rw [hji]; exact hprog
    · exact absurd hj (alone j hji)
  · have image : s.newestImage r.line = Option.none := State.newestImage_none
      (State.openBuffer_eq_none fun j hj => absurd hj (absent j)) (State.programmingBuffer_eq_none absent)
    have taken : s.readCourse r = .answered erasedLine := by rw [course, image]; exact if_pos clean
    refine (exec_hostRead_of_course h free taken nofun).trans ?_
    refine (congrArg Host.Outcome.next
      (State.answerRead_fresh (u := s.quiet.setRequest t (some r)) none rfl erasedLine)).trans ?_
    rw [s.newRead_readData_erased inLine]
    rfl
  · have image : s.newestImage r.line = Option.none := State.newestImage_none
      (State.openBuffer_eq_none fun j hj => absurd hj (absent j)) (State.programmingBuffer_eq_none absent)
    have taken : s.readCourse r = .offline := by
      rw [course, image]
      simp only
      rw [if_neg (by simp [dirty]), if_pos offline]
    refine (exec_hostRead_of_course h free taken nofun).trans ?_
    exact congrArg Host.Outcome.next (State.answer_fresh (u := s.quiet.setRequest t (some r)) none rfl _ _)

/-- Settles O23: the first three read steps send the read to a list, whose tail it joins. -/
theorem readWaits : Obligations.ReadWaits := by
  unfold Obligations.ReadWaits
  intro t a n s h r b free
  refine ⟨s.order_lt_accepted a (.read n), fun waits => ?_, fun i k held waits unheld ho hb => ?_,
    fun waits past erasing => ?_⟩
  · exact exec_hostRead_of_course h free (if_pos waits) nofun
  · have loading : s.loadingBuffer r.line = some i := by
      simp [State.loadingBuffer, ho, hb, Buffer.isLoading]
    have taken : s.readCourse r = .joinHeld i := by
      rw [State.readCourse_of_later waits]
      unfold State.laterReadCourse
      rw [if_neg (by simp [unheld]), loading]
    refine (exec_hostRead_of_course h free taken nofun).trans ?_
    have joined : (s.quiet.setRequest t (some r)).joinHeld i t =
        (s.quiet.setRequest t (some r)).setBuffer i (.loading r.line k (held ++ [t])) := by
      unfold State.joinHeld
      rw [show (s.quiet.setRequest t (some r)).buffer i = .loading r.line k held from hb]
    exact congrArg Host.Outcome.next joined
  · have taken : s.readCourse r = .hold := by
      have skipped : (if s.writeHeldInBlock r.line then none else s.loadingBuffer r.line) = none := by
        rcases past with held | loading
        · exact if_pos held
        · rw [loading, ite_self]
      rw [State.readCourse_of_later waits]
      unfold State.laterReadCourse
      rw [skipped]
      exact if_pos ⟨erasing, rfl⟩
    exact exec_hostRead_of_course h free taken nofun

/-- Settles O24: the read joins its die's queue, and the arbiter of that die acts. -/
theorem arrayReadIsSentHaltsOrWaits : Obligations.ArrayReadIsSentHaltsOrWaits := by
  unfold Obligations.ArrayReadIsSentHaltsOrWaits
  intro t a n s h r x entry free waits loading erase image dirty
  have course (live : x.isOffline = false) : s.readCourse r = .array := by
    rw [State.readCourse_of_later waits, State.laterReadCourse_past loading erase, image]
    simp only
    rw [if_neg (by simp [dirty]), if_neg (by exact ne_of_eq_of_ne live nofun)]
  let queued : State := (s.quiet.setRequest t (some r)).modifyDie r.line.die fun y => y.joinReads entry
  have arrives (live : x.isOffline = false) :
      exec (.hostRead t a n) s = .next (queued.arbitrate r.line.die) := by
    rw [exec_hostRead_of_accepts h,
      State.readArrives_array ((State.readCourse_accepted free).trans (course live))]
    have entered : (s.quiet.setRequest t (some r)).request t = some r := by simp
    unfold State.queueArrayRead
    rw [entered]
  have die : queued.die r.line.die = x.joinReads entry := by simp [queued]; rfl
  have state : (queued.die r.line.die).state = x.state := by rw [die]; rfl
  have reads : (queued.die r.line.die).readQueue = x.readQueue ++ [entry] := by rw [die]; rfl
  refine ⟨fun ready empty => ?_, fun op due running => ?_, fun op due guard running => ?_⟩
  · rw [arrives (by simp [Die.isOffline, ready]),
      State.arbitrate_read (.inl (state.trans ready)) (by rw [reads, empty]; rfl), State.sendRead, State.modifyDie, die]
    refine congrArg Host.Outcome.next ?_
    simp only [queued, State.modifyDie, State.setDie, State.setRequest, State.send, Vector.set_set, Die.joinReads]
    rw [← empty]
    rfl
  · rw [arrives (by cases op <;> simp [Die.isOffline, running, ArrayOp.runningState]),
      State.arbitrate_halt (state.trans running) (by simp [reads]), State.sendHalt, State.modifyDie, die]
    refine congrArg Host.Outcome.next ?_
    simp only [queued, State.modifyDie, State.setDie, State.setRequest, State.send, Vector.set_set]
    rfl
  · rw [arrives (by cases op <;> simp [Die.isOffline, running, ArrayOp.runningState]),
      State.arbitrate_running (state.trans running) (.inl nofun)]
    rfl

end Sys2Proof.Machine
end

section
/-! A write at its acceptance: posting a buffer with what its die then does, and the courses of the pool step one by
one (chapters 1 and 2). -/

namespace Sys2Proof.Machine

open Sys2Proof

/-! ## Posting, and the turn of its die -/

/-- A FILLING buffer is posted: its PROGRAM entry joins the tail of its die's work queue, also in an ERASE_PENDING
block whose die has nothing queued (R12, R15). -/
theorem State.post_tail {s : State} {i : BufIx} {l : LineAddr} {n : Nat} {body : LineBody} {p : Option BufIx}
    {due : Option Nat} (hb : s.buffer i = .filling l n body p due)
    (he : (s.block l.global).erase = .pending → (s.die l.die).workQueue = []) :
    s.post i = { s with
      buffers := s.buffers.set i (.posted l n body p)
      dies := s.dies.set l.die { s.die l.die with workQueue := (s.die l.die).workQueue ++ [.program i] } } := by
  unfold State.post
  rw [hb]
  by_cases pending : (s.block l.global).erase = .pending
  · simp only [if_pos pending, State.modifyDie, State.die_setBuffer, he pending]
    rfl
  · simp only [if_neg pending]
    rfl

theorem State.atRest_of_dies {s u : State} {d : DieIx} {x : Die} (h : s.othersAtRest d)
    (dies : u.dies = s.dies.set d x) (hx : x.atRest = true) : u.atRest := by
  intro e
  by_cases he : e = d
  · subst he
    rwa [State.die_of_dies dies]
  · have other := s.die_setDie d e x
    rw [if_neg (Ne.symm he)] at other
    rw [show u.die e = s.die e by rw [← other]; simp [State.die, dies]]
    exact h e he

theorem State.atRest.others {s : State} (h : s.atRest) (d : DieIx) : s.othersAtRest d := fun e _ => h e

/-- A READY die at rest has nothing queued. -/
theorem Die.atRest_ready {x : Die} (h : x.atRest = true) (hr : x.state = .ready) :
    x.readQueue = [] ∧ x.workQueue = [] := by
  simpa [Die.atRest, hr] using h

/-- A posted buffer whose die has nothing to do for it stays POSTED (R12). -/
theorem State.settle_post_waits {s : State} {i : BufIx} {l : LineAddr} {n : Nat} {body : LineBody} {p : Option BufIx}
    {due : Option Nat} (hb : s.buffer i = .filling l n body p due) (he : (s.block l.global).erase ≠ .pending)
    (others : s.othersAtRest l.die)
    (rest : ({ s.die l.die with workQueue := (s.die l.die).workQueue ++ [WorkEntry.program i] }).atRest = true) :
    (s.post i).settle = { s with
      buffers := s.buffers.set i (.posted l n body p)
      dies := s.dies.set l.die { s.die l.die with workQueue := (s.die l.die).workQueue ++ [.program i] } } := by
  rw [State.post_tail hb fun k => absurd k he]
  exact State.settle_of_atRest (State.atRest_of_dies others rfl rest)

/-- A POSTED buffer that is alone in the queue of a READY die starts its program (R80). -/
theorem State.arbitrate_starts {s : State} {d : DieIx} {i : BufIx} {l : LineAddr} {n : Nat} {body : LineBody}
    {rest : List WorkEntry} (hb : s.buffer i = .posted l n body none) (ready : (s.die d).state = .ready)
    (reads : (s.die d).readQueue = []) (work : (s.die d).workQueue = .program i :: rest)
    (guard : s.settings.guardInterval ≠ 0) :
    s.arbitrate d = { s with
      buffers := s.buffers.set i (.programming l n body 0)
      blocks := s.blocks.set l.global { s.block l.global with clean := false }
      dies := s.dies.set d { s.die d with
        state := .programming ⟨l.block, l.line, i⟩ (s.now + 3000) (some (s.now + s.settings.guardInterval))
        workQueue := rest }
      out := { s.out with
        link := s.out.link ++ [(d, .programLine l.block l.line body.image (wordMask body.written))] } } := by
  rw [State.arbitrate_work ready reads, State.serveWork_program work (by rw [hb]; rfl), State.startProgram_posted hb,
    State.guardPoint_of_ne_zero guard, work, List.erase_cons_head]

/-- A buffer posted on a READY die with nothing queued starts its program at once (R12, R80). -/
theorem State.settle_post_starts {s : State} {i : BufIx} {l : LineAddr} {n : Nat} {body : LineBody}
    {due : Option Nat} (hb : s.buffer i = .filling l n body none due)
    (others : s.othersAtRest l.die) (ready : (s.die l.die).state = .ready) (reads : (s.die l.die).readQueue = [])
    (work : (s.die l.die).workQueue = []) (guard : s.settings.guardInterval ≠ 0) :
    (s.post i).settle = { s with
      buffers := s.buffers.set i (.programming l n body 0)
      blocks := s.blocks.set l.global { s.block l.global with clean := false }
      dies := s.dies.set l.die { s.die l.die with
        state := .programming ⟨l.block, l.line, i⟩ (s.now + 3000) (some (s.now + s.settings.guardInterval)) }
      out := { s.out with
        link := s.out.link ++ [(l.die, .programLine l.block l.line body.image (wordMask body.written))] } } := by
  rw [State.post_tail hb fun _ => work]
  generalize hu : ({ s with
      buffers := s.buffers.set i (.posted l n body none)
      dies := s.dies.set l.die { s.die l.die with workQueue := (s.die l.die).workQueue ++ [.program i] } } : State) = u
  have dies : u.dies = s.dies.set l.die { s.die l.die with workQueue := (s.die l.die).workQueue ++ [.program i] } := by
    rw [← hu]
  have die := State.die_of_dies dies
  have buffer : u.buffer i = .posted l n body none := by simp [← hu, State.buffer]
  rw [State.settle_modifyDie others dies,
    State.arbitrate_starts (rest := []) buffer (by rw [die]; exact ready) (by rw [die]; exact reads)
      (by rw [die, work]; rfl) (by rw [← hu]; exact guard), die, ← hu]
  simp only [Vector.set_set, ← work]
  rfl

/-- A POSTED buffer is posted already (R16). -/
theorem State.postIfCaused_posted {s : State} {i : BufIx} {l : LineAddr} {n : Nat} {body : LineBody} {p : Option BufIx}
    (hb : s.buffer i = .posted l n body p) : s.postIfCaused i = s := by
  unfold State.postIfCaused
  rw [hb]

/-! ## Freed buffers with nobody waiting -/

theorem State.completeFlushes_of_open {s : State} (h : s.flushesOpen) : s.completeFlushes = s := by
  have kept : (s.flushes.filter fun f => !f.members.isEmpty) = s.flushes :=
    List.filter_eq_self.2 fun f hf => by simpa using h f hf
  have ended : (s.flushes.filter fun f => f.members.isEmpty) = [] :=
    List.filter_eq_nil_iff.2 fun f hf => by simpa using h f hf
  unfold State.completeFlushes
  rw [kept, ended, List.map_nil, List.append_nil]

theorem State.firstWaitingWrite_none {s : State} (h : s.noWriteWaits) : s.firstWaitingWrite = none :=
  List.find?_eq_none.2 fun t ht => by simp [h t ht]

theorem State.handOverLoop_idle {s : State} (h : s.noWriteWaits) (fuel : Nat) : State.handOverLoop fuel s = s := by
  cases fuel with
  | zero => rfl
  | succ n =>
    unfold State.handOverLoop
    rw [State.firstWaitingWrite_none h]
    cases s.lowestFree <;> rfl

theorem State.afterFree_idle {s : State} (h : s.noWriteWaits) : s.afterFree = s.completeFlushes :=
  State.handOverLoop_idle (s := s.completeFlushes) h _

theorem State.noWriteWaits_of_eq {s u : State} (h : s.noWriteWaits) (waits : u.waitList = s.waitList)
    (table : u.table = s.table) : u.noWriteWaits := by
  intro t ht
  have := h t (waits ▸ ht)
  simpa [State.isWrite, State.request, table] using this

theorem State.writeWaits_of_noWriteWaits {s : State} (h : s.noWriteWaits) (l : LineAddr) : s.writeWaits l = false := by
  refine List.any_eq_false.2 fun t ht => ?_
  simp [h t ht]

/-! ## An admitted write -/

/-- The accepted write once admission has stamped it. -/
def State.stamped (s : State) (t : Tag) (r : Request) (m : AdmittedMode) : State :=
  s.quiet.setRequest t (some (r.admitted m))

/-- Admission changes neither what a write covers nor what it writes (R41). -/
@[simp] theorem LineBody.overlay_admitted (body : LineBody) (r : Request) (m : AdmittedMode) :
    body.overlay (r.admitted m) = body.overlay r := rfl

@[simp] theorem Request.fits_admitted (r : Request) (m k : AdmittedMode) (body : LineBody) :
    (r.admitted m).fits k body = r.fits k body := rfl

theorem State.request_stamped (s : State) (t : Tag) (r : Request) (m : AdmittedMode) :
    (s.stamped t r m).request t = some (r.admitted m) := by
  simp [State.stamped]

theorem State.course_accepted {s : State} {t : Tag} {r : Request} {l : LineAddr} (h : t ∉ s.waitList) :
    (s.quiet.setRequest t (some r)).course l = s.course l := by
  unfold State.course
  rw [State.writeWaits_setRequest (s := s.quiet) _ _ h]
  rfl

/-- An accepted write that admission admits takes its course, and the die controllers act (R36, R79). -/
theorem exec_hostWrite_of_admits {t : Tag} {a : BitVec 27} {beats : List Beat} {m : AdmittedMode} {s : State}
    {c : Course} (h : s.accepts t a beats.length) (free : s.tagFree t (s.newWrite a beats).line)
    (ha : s.admits (s.newWrite a beats) m) (hc : s.course (s.newWrite a beats).line = c) :
    exec (.hostWrite t a beats) s = .next ((s.stamped t (s.newWrite a beats) m).takeFresh t c).settle := by
  rw [exec_hostWrite_of_accepts h]
  generalize s.newWrite a beats = r at *
  have verdict : (s.quiet.setRequest t (some r)).verdict r = .admitted m :=
    State.verdict_of_admits (s := s.quiet.setRequest t (some r)) ha
  have stamp : (s.quiet.setRequest t (some r)).stampMode t r m = s.stamped t r m := by
    simp [State.stampMode, State.stamped, State.setRequest, Request.admitted]
  unfold State.writeArrives
  rw [verdict, State.course_accepted free.1, hc]
  exact congrArg (fun v : State => Host.Outcome.next (v.takeFresh t c).settle) stamp

/-- The same with the course's effect named. -/
theorem exec_hostWrite_of_course {t : Tag} {a : BitVec 27} {beats : List Beat} {m : AdmittedMode} {s u : State}
    {c : Course} (hu : (s.stamped t (s.newWrite a beats) m).takeFresh t c = u)
    (h : s.accepts t a beats.length) (free : s.tagFree t (s.newWrite a beats).line)
    (ha : s.admits (s.newWrite a beats) m) (hc : s.course (s.newWrite a beats).line = c) :
    exec (.hostWrite t a beats) s = .next u.settle := by
  rw [exec_hostWrite_of_admits h free ha hc, hu]

theorem State.takeFresh_meet (s : State) (t : Tag) (i : BufIx) : s.takeFresh t (.meet i) = s.meet i t := rfl

theorem State.course_of_buffer {s : State} {l : LineAddr} (h : s.writeWaits l = false) : s.course l = s.bufferCourse l :=
  if_neg (by simp [h])

theorem State.bufferCourse_meet {s : State} {l : LineAddr} {i : BufIx} (ho : s.openBuffer l = some i)
    (hb : (s.buffer i).isLoading = false) : s.bufferCourse l = .meet i := by
  simp [State.bufferCourse, ho, hb]

/-- The response of a write that is answered in the happening of its acceptance. -/
theorem State.meet_merges_filling {s : State} {t : Tag} {r : Request} {m : AdmittedMode} {i : BufIx} {l : LineAddr}
    {n : Nat} {body : LineBody} {p : Option BufIx} {due : Option Nat} (free : s.request t = none)
    (hb : s.buffer i = .filling l n body p due) (fits : r.fits m body = true) :
    (s.stamped t r m).meet i t = State.postIfCaused { s with
      responses := s.responses ++ [⟨t, .ok, none⟩]
      buffers := s.buffers.set i (.filling l n (body.overlay r) p s.coalescePoint)
      out := Outputs.none } i := by
  have buffer : (s.stamped t r m).buffer i = .filling l n body p due := hb
  unfold State.meet
  rw [s.request_stamped, buffer]
  simp only [Buffer.body?]
  rw [if_pos (by exact fits)]
  unfold State.merge
  rw [buffer]
  exact congrArg (State.postIfCaused · i) (State.answer_fresh (u := (s.stamped t r m).setBuffer i _) free rfl .ok none)

theorem State.coalescePoint_of_ne_zero {s : State} (h : s.settings.coalesceWindow ≠ 0) :
    s.coalescePoint = some (s.now + s.settings.coalesceWindow) := if_neg h

/-- Settles O14: the write is merged and the posting causes looked at, or it is refused and the buffer stays. -/
theorem writeMeetsOpenBuffer : Obligations.WriteMeetsOpenBuffer := by
  unfold Obligations.WriteMeetsOpenBuffer
  intro t a beats m i n body p due s h r x free ha waits ho rest
  obtain ⟨-, -, -, -, -, -, none⟩ := id h
  have unerased : (s.block r.line.global).erase ≠ .pending := ne_of_eq_of_ne ha.2.2.1 nofun
  have meets (hl : (s.buffer i).isLoading = false) :
      exec (.hostWrite t a beats) s = .next ((s.stamped t r m).meet i t).settle :=
    exec_hostWrite_of_course (State.takeFresh_meet _ t i) h free ha
      ((State.course_of_buffer waits).trans (State.bufferCourse_meet ho hl))
  let merged : State := { s with
    responses := s.responses ++ [⟨t, .ok, Option.none⟩]
    buffers := s.buffers.set i (.filling r.line n (body.overlay r) p s.coalescePoint)
    out := Outputs.none }
  have mergedBuffer : merged.buffer i = .filling r.line n (body.overlay r) p s.coalescePoint := by
    simp [merged, State.buffer]
  refine ⟨fun hb fits stays => ?_, fun hb fits posts => ⟨fun queued => ?_, fun ready unlinked guard => ?_⟩,
    fun hb fits => ?_, fun hb refused => ?_⟩
  · rw [meets (by rw [hb]; rfl), State.meet_merges_filling none hb fits,
      State.postIfCaused_stays mergedBuffer stays]
    refine congrArg Host.Outcome.next ((State.settle_of_atRest (s := merged) rest).trans ?_)
    simp only [merged, State.coalescePoint_of_ne_zero fun w => stays (.inr (.inl w))]
  · rw [meets (by rw [hb]; rfl), State.meet_merges_filling none hb fits, State.postIfCaused_posts mergedBuffer posts,
      State.settle_post_waits mergedBuffer unerased (rest.others _) queued]
    simp only [merged, Vector.set_set]
    rfl
  · obtain ⟨reads, work⟩ := Die.atRest_ready (rest r.line.die) ready
    subst unlinked
    rw [meets (by rw [hb]; rfl), State.meet_merges_filling none hb fits, State.postIfCaused_posts mergedBuffer posts,
      State.settle_post_starts mergedBuffer (rest.others _) ready reads work guard]
    simp only [merged, Vector.set_set]
    rfl
  · have buffer : (s.stamped t r m).buffer i = .posted r.line n body p := hb
    have met : (s.stamped t r m).meet i t = { s with
        responses := s.responses ++ [⟨t, .ok, Option.none⟩]
        buffers := s.buffers.set i (.posted r.line n (body.overlay r) p)
        out := Outputs.none } := by
      unfold State.meet
      rw [s.request_stamped, buffer]
      simp only [Buffer.body?]
      rw [if_pos (by exact fits)]
      unfold State.merge
      rw [buffer]
      simp only
      rw [State.answerPlain, State.answer_fresh (u := (s.stamped t r m).setBuffer i _) none rfl]
      exact State.postIfCaused_posted (l := r.line) (n := n) (body := body.overlay r) (p := p) (by simp [State.buffer])
    rw [meets (by rw [hb]; rfl), met, State.settle_of_atRest]
    exact rest
  · have facts : (s.buffer i).isLoading = false ∧ (s.buffer i).body? = some body := by
      rcases hb with hb | hb <;> rw [hb] <;> exact ⟨rfl, rfl⟩
    have met : (s.stamped t r m).meet i t =
        { s with responses := s.responses ++ [⟨t, .refused m.refusal, Option.none⟩], out := Outputs.none } := by
      unfold State.meet
      rw [s.request_stamped, show ((s.stamped t r m).buffer i).body? = some body from facts.2]
      simp only
      rw [if_neg (by exact ne_of_eq_of_ne refused nofun)]
      exact State.answer_fresh (u := s.stamped t r m) none rfl _ _
    rw [meets facts.1, met, State.settle_of_atRest]
    exact rest

end Sys2Proof.Machine
end

section
/-! The courses of an admitted write that open a buffer or wait for one, and the expiry of a coalesce timer
(chapter 1). -/

namespace Sys2Proof.Machine

open Sys2Proof

/-! ## Opening with a base at hand -/

/-- The state in which an accepted write has opened buffer `i` on a base and is merged into it. -/
def State.openedWith (s : State) (i : BufIx) (t : Tag) (r : Request) (base : LineImage) (link : Option BufIx) : State :=
  { s with
    responses := s.responses ++ [⟨t, .ok, none⟩]
    buffers := s.buffers.set i (.filling r.line s.openCounter ((LineBody.fresh base).overlay r) link s.coalescePoint)
    openCounter := s.openCounter + 1
    out := Outputs.none }

theorem State.buffer_openedWith (s : State) (i : BufIx) (t : Tag) (r : Request) (base : LineImage)
    (link : Option BufIx) : (s.openedWith i t r base link).buffer i =
      .filling r.line s.openCounter ((LineBody.fresh base).overlay r) link s.coalescePoint := by
  simp [State.openedWith, State.buffer]

/-- An accepted write that fits its base opens its buffer, is merged and answered, and the posting causes are looked
at (R5, R7, R10). -/
theorem State.openWithBase_stamped {s : State} {t : Tag} {r : Request} {m : AdmittedMode} {i : BufIx}
    {base : LineImage} {link : Option BufIx} (free : s.request t = none) (fits : r.fits m (.fresh base) = true) :
    (s.stamped t r m).openWithBase i t base link = (s.openedWith i t r base link).postIfCaused i := by
  unfold State.openWithBase
  rw [s.request_stamped]
  simp only
  rw [if_pos (by exact fits)]
  refine congrArg (State.postIfCaused · i) ?_
  have opened : ((s.stamped t r m).openAs i fun n => .filling r.line n (.fresh base) link none).buffer i =
      .filling r.line s.openCounter (.fresh base) link none := by
    simp [State.openAs, State.buffer]
    rfl
  unfold State.merge
  rw [show (r.admitted m).line = r.line from rfl, opened]
  simp only
  rw [State.answerPlain, State.answer_fresh (s := s) (r := r.admitted m) free rfl]
  simp only [State.openAs, State.setBuffer, Vector.set_set, LineBody.overlay_admitted]
  rfl

/-- With every flush unfinished and no write waiting the end of a happening at the pool changes nothing. -/
theorem State.afterFree_eq_self {s : State} (waits : s.noWriteWaits) (flushes : s.flushesOpen) : s.afterFree = s := by
  rw [State.afterFree_idle waits, State.completeFlushes_of_open flushes]

/-- The course of a write that needs a buffer where one is FREE (R4 to R7). -/
theorem State.course_opens {s : State} {l : LineAddr} {i : BufIx} (waits : s.writeWaits l = false)
    (ho : s.openBuffer l = none) (hf : s.lowestFree = some i) :
    s.course l = ((s.programmingBuffer l).elim (if (s.block l.global).clean then .openClean i else .openLoading i)
      fun p => .successor i p) := by
  rw [State.course_of_buffer waits, State.bufferCourse, ho, hf]
  cases s.programmingBuffer l <;> rfl

/-- In a clean block the write opens on 64 bytes of 0xFF (R5). -/
theorem State.takeFresh_clean {s : State} {l : LineAddr} {i : BufIx} (waits : s.writeWaits l = false)
    (ho : s.openBuffer l = none) (hf : s.lowestFree = some i) (hp : s.programmingBuffer l = none)
    (clean : (s.block l.global).clean = true) (v : State) (t : Tag) :
    v.takeFresh t (s.course l) = (v.openWithBase i t erasedLine none).afterFree := by
  rw [State.course_opens waits ho hf, hp, Option.elim_none, if_pos clean]
  rfl

/-- On a line that only a PROGRAMMING buffer holds it opens on a copy of that buffer's image (R7). -/
theorem State.takeFresh_successor {s v : State} {l : LineAddr} {i j : BufIx} {body : LineBody}
    (waits : s.writeWaits l = false) (ho : s.openBuffer l = none) (hf : s.lowestFree = some i)
    (hp : s.programmingBuffer l = some j) (hb : (v.buffer j).body? = some body) (t : Tag) :
    v.takeFresh t (s.course l) = (v.openWithBase i t body.image (some j)).afterFree := by
  rw [State.course_opens waits ho hf, hp, Option.elim_some]
  simp only [State.takeFresh, State.take]
  rw [hb]

/-- Settles O15: the buffer opens on its base with the write merged, and the posting causes are looked at. -/
theorem writeOpensOnKnownBase : Obligations.WriteOpensOnKnownBase := by
  unfold Obligations.WriteOpensOnKnownBase
  intro t a beats m i base link s h r x body free ha idle flushes ho hp hbase hf rest fits
  obtain ⟨-, -, -, -, -, -, none⟩ := id h
  have unerased : (s.block r.line.global).erase ≠ .pending := ne_of_eq_of_ne ha.2.2.1 nofun
  have waits := State.writeWaits_of_noWriteWaits idle r.line
  let opened : State := s.openedWith i t r base link
  have buffer : opened.buffer i = .filling r.line s.openCounter body link s.coalescePoint :=
    s.buffer_openedWith i t r base link
  have opens : exec (.hostWrite t a beats) s = .next ((opened.postIfCaused i).afterFree).settle := by
    refine exec_hostWrite_of_course ?_ h free ha rfl
    rw [← State.openWithBase_stamped none fits]
    cases link with
    | none =>
      obtain ⟨clean, rfl⟩ := hbase
      exact State.takeFresh_clean waits ho hf hp clean _ t
    | some j =>
      obtain ⟨old, hold, rfl⟩ := Option.map_eq_some_iff.mp hbase
      exact State.takeFresh_successor (v := s.stamped t r m) waits ho hf hp hold t
  refine ⟨fun stays => ?_, fun posts => ?_⟩
  · rw [opens, State.postIfCaused_stays buffer stays, State.afterFree_eq_self (s := opened) idle flushes,
      State.settle_of_atRest (s := opened) rest]
    simp only [opened, State.openedWith, State.coalescePoint_of_ne_zero fun w => stays (.inr (.inl w))]
    rfl
  · have idlePost : (opened.post i).afterFree = opened.post i := by
      rw [State.post_tail buffer fun k => absurd k unerased]
      exact State.afterFree_eq_self (State.noWriteWaits_of_eq idle rfl rfl) flushes
    rw [opens, State.postIfCaused_posts buffer posts, idlePost]
    refine ⟨fun queued => ?_, fun ready unlinked guard => ?_⟩
    · rw [State.settle_post_waits buffer unerased (State.atRest.others rest _) queued]
      simp only [opened, State.openedWith, Vector.set_set]
      rfl
    · obtain ⟨reads, work⟩ := Die.atRest_ready (rest r.line.die) ready
      subst unlinked
      rw [State.settle_post_starts buffer (State.atRest.others rest _) ready reads work guard]
      simp only [opened, State.openedWith, Vector.set_set]
      rfl

/-! ## Opening with a base load -/

/-- Settles O16: the base load joins the empty read queue of its READY die, which sends it. -/
theorem writeOpensLoadingBuffer : Obligations.WriteOpensLoadingBuffer := by
  unfold Obligations.WriteOpensLoadingBuffer
  intro t a beats m i s h r x free ha waits ho hp hf dirty others ready reads
  let load : ReadEntry := .baseLoad r.line.block r.line.line i
  let opened : State := { s with
    table := s.table.set t (some (r.admitted m))
    buffers := s.buffers.set i (.loading r.line s.openCounter [t])
    openCounter := s.openCounter + 1
    dies := s.dies.set r.line.die (x.joinReads load)
    out := Outputs.none }
  have course : s.course r.line = .openLoading i := by
    rw [State.course_of_buffer waits, State.bufferCourse, ho, hf, hp]
    exact if_neg (by simp [dirty])
  have opens : (s.stamped t r m).takeFresh t (.openLoading i) = opened := by
    change (s.stamped t r m).openLoading i t = opened
    unfold State.openLoading
    rw [s.request_stamped]
    rfl
  have die : opened.die r.line.die = x.joinReads load := State.die_of_dies (s := s) rfl
  rw [exec_hostWrite_of_course opens h free ha course, State.settle_modifyDie (u := opened) others rfl,
    State.arbitrate_read (rest := []) (e := load) (.inl (by rw [die]; exact ready))
      (by rw [die, Die.joinReads, reads]; rfl), State.sendRead, State.modifyDie, die]
  simp only [opened, State.setDie, State.send, Vector.set_set, Die.joinReads, ← reads]
  rfl

/-! ## Waiting -/

/-- The course of a write that waits: a write of its line waits already, or it needs a buffer and none is FREE
(R4, R23). -/
theorem State.course_wait {s : State} {l : LineAddr}
    (h : s.writeWaits l = true ∨ (s.openBuffer l = none ∧ s.lowestFree = none)) : s.course l = .wait := by
  unfold State.course
  split
  · rfl
  · next hw =>
    obtain ⟨ho, hf⟩ := h.resolve_left hw
    rw [State.bufferCourse, ho, hf]

/-- Settles O17: the write joins the held list, or the wait list with pressure posting. -/
theorem writeWaitsForBuffer : Obligations.WriteWaitsForBuffer := by
  unfold Obligations.WriteWaitsForBuffer
  intro t a beats m s h r free ha rest
  refine ⟨fun i n held waits ho hb => ?_, fun needs => ?_⟩
  · have course : s.course r.line = .joinHeld i := by
      rw [State.course_of_buffer waits, State.bufferCourse, ho]
      exact if_pos (by rw [hb]; rfl)
    have joined : (s.stamped t r m).takeFresh t (.joinHeld i) =
        (s.stamped t r m).setBuffer i (.loading r.line n (held ++ [t])) := by
      change (s.stamped t r m).joinHeld i t = _
      unfold State.joinHeld
      rw [show (s.stamped t r m).buffer i = .loading r.line n held from hb]
    rw [exec_hostWrite_of_course joined h free ha course, State.settle_of_atRest (by exact rest)]
    rfl
  · let waiting : State := (s.stamped t r m).joinWait t
    have joins : (s.stamped t r m).takeFresh t .wait = waiting.pressurePost := rfl
    rw [exec_hostWrite_of_course joins h free ha (State.course_wait needs)]
    refine ⟨fun none => ?_, fun i l n body p due hb oldest unerased => ?_⟩
    · rw [(pressurePostsOldest waiting).2 none, State.settle_of_atRest (s := waiting) rest]
      rfl
    · have buffer : waiting.buffer i = .filling l n body p due := hb
      rw [(pressurePostsOldest waiting).1 i n l body p due buffer oldest]
      refine ⟨fun queued => ?_, fun ready unlinked guard => ?_⟩
      · rw [State.settle_post_waits buffer unerased (State.atRest.others rest _) queued]
        rfl
      · obtain ⟨reads, work⟩ := Die.atRest_ready (rest l.die) ready
        subst unlinked
        rw [State.settle_post_starts buffer (State.atRest.others rest _) ready reads work guard]
        rfl

/-! ## The coalesce timer -/

/-- A PROGRAM entry goes immediately ahead of its block's ERASE entry (R15). -/
theorem insertAhead_eq {b : BlockIx} {i : BufIx} {ahead behind : List WorkEntry} {tk : Ticket}
    (h : ∀ tk', WorkEntry.erase b tk' ∉ ahead) :
    insertAhead b i (ahead ++ .erase b tk :: behind) = ahead ++ .program i :: .erase b tk :: behind := by
  induction ahead with
  | nil => simp [insertAhead]
  | cons w ahead ih =>
    have rest := ih fun tk' k => h tk' (List.mem_cons_of_mem _ k)
    cases w with
    | program j => simp [insertAhead, rest]
    | erase b' tk' =>
      have other : b' ≠ b := fun e => h tk' (by rw [e]; exact List.mem_cons_self)
      simp [insertAhead, rest, other]

/-- A FILLING buffer of an ERASE_PENDING block is posted ahead of the block's ERASE entry (R15). -/
theorem State.post_ahead {s : State} {i : BufIx} {l : LineAddr} {n : Nat} {body : LineBody} {p : Option BufIx}
    {due : Option Nat} {ahead behind : List WorkEntry} {tk : Ticket} (hb : s.buffer i = .filling l n body p due)
    (he : (s.block l.global).erase = .pending)
    (hw : (s.die l.die).workQueue = ahead ++ .erase l.block tk :: behind)
    (first : ∀ tk', WorkEntry.erase l.block tk' ∉ ahead) :
    s.post i = { s with
      buffers := s.buffers.set i (.posted l n body p)
      dies := s.dies.set l.die
        { s.die l.die with workQueue := ahead ++ .program i :: .erase l.block tk :: behind } } := by
  unfold State.post
  rw [hb]
  simp only [he, if_true, State.modifyDie, State.die_setBuffer, hw, insertAhead_eq first]
  rfl

/-- A die controller that is not READY stays at rest whatever joins its work queue. -/
theorem Die.atRest_of_work {x : Die} {work : List WorkEntry} (h : x.atRest = true)
    (hw : x.state = .ready → work = []) : ({ x with workQueue := work }).atRest = true := by
  unfold Die.atRest at h ⊢
  split at h <;> simp_all

/-- Settles O27: the buffer is posted, and its die acts where it is READY with nothing else to do. -/
theorem coalesceTimerPosts : Obligations.CoalesceTimerPosts := by
  unfold Obligations.CoalesceTimerPosts
  intro i l n body p due s hb others x
  let later : State := s.quiet.reach due
  have expires : exec (.coalesceTimerExpiry i) s = .next (later.post i).settle := by
    simp only [exec, execCoalesceTimerExpiry, hb, Buffer.coalesceDue?]
    rfl
  have buffer : later.buffer i = .filling l n body p (some due) := hb
  rw [expires]
  refine ⟨fun unerased queued => ?_, fun ahead behind tk pending work first atRest => ?_,
    fun ready reads work unlinked guard => ?_⟩
  · rw [State.settle_post_waits buffer unerased others queued]
    rfl
  · rw [State.post_ahead buffer pending work first]
    have busy : x.state = .ready → ahead ++ WorkEntry.program i :: .erase l.block tk :: behind = [] := fun ready => by
      have empty := (Die.atRest_ready atRest ready).2
      rw [work] at empty
      simp at empty
    rw [State.settle_of_atRest (State.atRest_of_dies (s := later) (d := l.die) others rfl
      (Die.atRest_of_work (x := later.die l.die) atRest busy))]
    rfl
  · subst unlinked
    rw [State.settle_post_starts buffer others ready reads work guard]
    rfl

end Sys2Proof.Machine
end

section
/-! The expiry of a hold timer: a request leaves its place, and a waiting write lets the reads behind it go
(sections 1.5 and 8.5). -/

namespace Sys2Proof.Machine

open Sys2Proof

/-! ## Leaving a place -/

/-- A controller stays at rest where no read joins its empty read queue. -/
theorem Die.atRest_of_reads {x : Die} {reads : List ReadEntry} (h : x.atRest = true)
    (hq : x.readQueue = [] → reads = []) : ({ x with readQueue := reads }).atRest = true := by
  unfold Die.atRest at h ⊢
  split at h <;> simp_all

/-- A controller that has nothing to do has nothing to do once a request has left its queue. -/
theorem Die.atRest_dropTag {x : Die} {t : Tag} (h : x.atRest = true) : (x.dropTag t).atRest = true := by
  rcases x.state.dropTag_cases t with e | ⟨_, _, _, -, e⟩
  · unfold Die.dropTag
    rw [e]
    exact Die.atRest_of_reads h fun q => by rw [q]; rfl
  · simp [Die.dropTag, e, Die.atRest]

/-- A controller that has no entry of the request is as it was. -/
theorem Die.dropTag_of_not_mem {x : Die} {t : Tag} (h : t ∉ x.hostReads) : x.dropTag t = x := by
  have queue : (x.readQueue.filter fun e => e.tag? != some t) = x.readQueue := by
    refine List.filter_eq_self.2 fun e he => ?_
    simp only [bne_iff_ne, ne_eq]
    exact fun k => h (List.mem_filterMap.2 ⟨e, List.mem_append_right _ he, k⟩)
  have state : x.state.dropTag t = x.state := by
    unfold DieState.dropTag
    split
    · next b l t' due hs =>
      have hne : t' ≠ t := fun k => h (List.mem_filterMap.2
        ⟨.hostRead b l (some t'), List.mem_append_left _ (by rw [hs]; exact List.mem_singleton_self _), by rw [k]; rfl⟩)
      rw [if_neg hne, hs]
    · rfl
  unfold Die.dropTag
  rw [queue, state]

theorem State.leavePlace_eq (s : State) (t : Tag) (r : Request) : s.leavePlace t r = { s with
    buffers := mapIndexed (fun _ b => b.dropHeld t) s.buffers
    waitList := s.waitList.filter (· != t)
    blocks := s.blocks.set r.line.global
      { s.block r.line.global with holdList := (s.block r.line.global).holdList.filter (· != t) }
    dies := s.dies.set r.line.die ((s.die r.line.die).dropTag t) } := rfl

/-- A request that stands in the wait list alone leaves that list and nothing else. -/
theorem State.leavePlace_of_waiting {s : State} {t : Tag} {r : Request} (held : ∀ i, t ∉ (s.buffer i).held)
    (hold : t ∉ (s.block r.line.global).holdList) (reads : t ∉ (s.die r.line.die).hostReads) :
    s.leavePlace t r = { s with waitList := s.waitList.filter (· != t) } := by
  have buffers : mapIndexed (fun _ b => b.dropHeld t) s.buffers = s.buffers := by
    refine mapIndexed_eq_self _ _ fun i hi => ?_
    have absent : t ∉ (s.buffers[i]).held := held ⟨i, hi⟩
    generalize s.buffers[i] = b at absent
    cases b with
    | loading l n h =>
      have kept : h.filter (· != t) = h := List.filter_eq_self.2 fun t' ht' => by
        simp only [bne_iff_ne, ne_eq]
        exact fun e => absent (e ▸ ht')
      simp only [Buffer.dropHeld, kept]
    | _ => rfl
  have block : ({ s.block r.line.global with
      holdList := (s.block r.line.global).holdList.filter (· != t) } : BlockRecord) = s.block r.line.global := by
    have kept : (s.block r.line.global).holdList.filter (· != t) = (s.block r.line.global).holdList :=
      List.filter_eq_self.2 fun t' ht' => by
        simp only [bne_iff_ne, ne_eq]
        exact fun e => hold (e ▸ ht')
    rw [kept]
  have blocks : s.blocks.set r.line.global (s.block r.line.global) = s.blocks := Vector.set_getElem_self _
  have dies : s.dies.set r.line.die (s.die r.line.die) = s.dies := Vector.set_getElem_self _
  rw [s.leavePlace_eq, buffers, block, blocks, Die.dropTag_of_not_mem reads, dies]

/-! ## The reads behind a write that leaves -/

/-- With no waiting request of the line nothing is released (R26). -/
theorem State.unblockedReads_nil {s : State} {l : LineAddr} {ts : List Tag} (h : ∀ t ∈ ts, s.isForLine l t = false) :
    s.unblockedReads l ts = [] := by
  induction ts with
  | nil => rfl
  | cons t ts ih =>
    rw [State.unblockedReads, if_neg (by simp [h t List.mem_cons_self])]
    exact ih fun t' ht' => h t' (List.mem_cons_of_mem _ ht')

theorem State.releaseReads_nil {s : State} {l : LineAddr} (h : ∀ t ∈ s.waitList, s.isForLine l t = false) :
    s.releaseReads l = s := by
  unfold State.releaseReads
  rw [State.unblockedReads_nil h]
  simp

/-- A read of the line at the head of the wait list with no other request of the line behind it is released alone
(R26). -/
theorem State.releaseReads_head {s : State} {l : LineAddr} {t : Tag} {r : Request} {rest : List Tag}
    (hw : s.waitList = t :: rest) (ht : s.request t = some r) (read : r.payload.isWrite = false) (hl : r.line = l)
    (others : ∀ t' ∈ rest, s.isForLine l t' = false) :
    s.releaseReads l = State.processRead State.laterReadCourse { s with waitList := rest } t := by
  have isLine : s.isForLine l t = true := by simp [State.isForLine, ht, hl]
  have isRead : s.isWrite t = false := by simp [State.isWrite, ht, read]
  have released : s.unblockedReads l s.waitList = [t] := by
    rw [hw, State.unblockedReads, if_pos isLine, if_neg (by simp [isRead]), State.unblockedReads_nil others]
  have left : (s.waitList.filter fun t' => !([t].contains t')) = rest := by
    rw [hw, List.filter_cons_of_neg (by simp)]
    refine List.filter_eq_self.2 fun t' ht' => ?_
    have hne : t' ≠ t := fun e => by simp [others t (e ▸ ht')] at isLine
    simp [hne]
  unfold State.releaseReads
  rw [released]
  simp only [left]
  rfl

/-! ## The expiry -/

theorem exec_holdTimerExpiry {t : Tag} {r : Request} {due : Nat} {s : State} (hr : s.request t = some r)
    (hd : r.holdDue = some due) :
    exec (.holdTimerExpiry t) s = .next (((s.quiet.reach due).timeOut t r).settle) := by
  simp only [exec, execHoldTimerExpiry, hr, hd]

/-- The state in which the request has left its place and is answered. -/
def State.timedOut (s : State) (t : Tag) (r : Request) : State :=
  { s.leavePlace t r with table := s.table.set t none, responses := s.responses ++ [⟨t, .timeout, none⟩] }

theorem State.timeOut_eq {s : State} {t : Tag} {r : Request} (hr : s.request t = some r) : s.timeOut t r =
    if r.payload.isWrite && s.waitList.contains t then (s.timedOut t r).releaseReads r.line else s.timedOut t r := by
  unfold State.timeOut
  rw [State.answerPlain, State.answer_of_some (s := s.leavePlace t r) (r := r) hr]
  rfl

theorem State.request_timedOut (s : State) {t t' : Tag} (r : Request) (h : t ≠ t') :
    (s.timedOut t r).request t' = s.request t' := by
  rw [show (s.timedOut t r).request t' = (s.setRequest t none).request t' from rfl, State.request_setRequest, if_neg h]

theorem State.isForLine_timedOut (s : State) {t t' : Tag} (r : Request) (l : LineAddr) (h : t ≠ t') :
    (s.timedOut t r).isForLine l t' = s.isForLine l t' := by
  unfold State.isForLine
  rw [s.request_timedOut r h]

/-- With no read of its line behind it the request's leaving and its answer are all (R145). -/
theorem State.timeOut_alone {s : State} {t : Tag} {r : Request} (hr : s.request t = some r)
    (h : r.payload.isWrite = false ∨ t ∉ s.waitList ∨ ∀ t' ∈ s.waitList, t' ≠ t → s.isForLine r.line t' = false) :
    s.timeOut t r = s.timedOut t r := by
  rw [State.timeOut_eq hr]
  split
  · next hw =>
    obtain ⟨write, waits⟩ := Bool.and_eq_true_iff.mp hw
    have others : ∀ t' ∈ s.waitList, t' ≠ t → s.isForLine r.line t' = false := by
      rcases h with h | h | h
      · simp [h] at write
      · exact absurd (List.contains_iff_mem.1 waits) h
      · exact h
    refine State.releaseReads_nil fun t' ht' => ?_
    obtain ⟨mem, ne⟩ := List.mem_filter.1 (show t' ∈ s.waitList.filter (· != t) from ht')
    have hne : t' ≠ t := by simpa using ne
    rw [s.isForLine_timedOut r _ hne.symm]
    exact others t' mem hne
  · rfl

theorem State.atRest_timedOut {s : State} {t : Tag} {r : Request} (h : s.atRest) : (s.timedOut t r).atRest :=
  State.atRest_of_dies (s := s) (d := r.line.die) (h.others _) rfl (Die.atRest_dropTag (h _))

/-- Settles O26: the request leaves every list it can stand in and is answered, and the one read that its leaving
releases takes the later read steps. -/
theorem holdTimerAnswersTimeout : Obligations.HoldTimerAnswersTimeout := by
  unfold Obligations.HoldTimerAnswersTimeout
  refine ⟨fun t r due s hr hd alone rest => ?_, fun t t₂ w r more due s => ?_⟩
  · let later : State := s.quiet.reach due
    have expires : exec (.holdTimerExpiry t) s = .next (later.timedOut t r) := by
      rw [exec_holdTimerExpiry hr hd, State.timeOut_alone (s := later) hr alone,
        State.settle_of_atRest (State.atRest_timedOut (s := later) rest)]
    refine ⟨_, expires, rfl, fun i => ?_, fun g => ?_, fun d => ?_⟩
    · refine (getElem_mapIndexed (fun _ b => Buffer.dropHeld b t) s.buffers i.val i.isLt).trans ?_
      change (s.buffer i).dropHeld t = _
      cases s.buffer i <;> rfl
    · have read := s.block_modifyBlock r.line.global g fun b => { b with holdList := b.holdList.filter (· != t) }
      refine Eq.trans read ?_
      by_cases hg : g = r.line.global
      · rw [if_pos hg.symm, if_pos hg, hg]
      · rw [if_neg (Ne.symm hg), if_neg hg]
    · have read := s.die_modifyDie r.line.die d fun x => x.dropTag t
      refine Eq.trans read ?_
      by_cases he : d = r.line.die
      · rw [if_pos he.symm, if_pos he, he]
        unfold Die.dropTag DieState.dropTag
        cases (s.die r.line.die).state with
        | reading e limit => rcases e with ⟨b, l, _ | t'⟩ | ⟨b, l, i⟩ <;> rfl
        | _ => rfl
      · rw [if_neg (Ne.symm he), if_neg he]
  · intro x entry hw hne ht write hd ht₂ read hl others rest erase held hold reads ho
    let later : State := s.quiet.reach due
    have tLine : s.isForLine w.line t = true := by simp [State.isForLine, ht]
    have inWait : (later.waitList.contains t) = true := List.contains_iff_mem.2 (by
      rw [show later.waitList = t :: t₂ :: more from hw]; exact List.mem_cons_self)
    have left : s.waitList.filter (· != t) = t₂ :: more := by
      rw [hw, List.filter_cons_of_neg (by simp)]
      refine List.filter_eq_self.2 fun t' ht' => ?_
      have : t' ≠ t := by
        rintro rfl
        rcases List.mem_cons.mp ht' with e | hm
        · exact hne e
        · simp [others t' hm] at tLine
      simpa using this
    let out : State := { later with
      table := s.table.set t none, responses := s.responses ++ [⟨t, .timeout, none⟩], waitList := more }
    have timedOut : later.timedOut t w = { out with waitList := t₂ :: more } := by
      rw [State.timedOut, State.leavePlace_of_waiting (s := later) held hold reads]
      simp only [show later.waitList.filter (· != t) = t₂ :: more from left]
      rfl
    have entered : out.request t₂ = some r := by
      rw [show out.request t₂ = (s.setRequest t none).request t₂ from rfl, State.request_setRequest, if_neg hne, ht₂]
    have released : exec (.holdTimerExpiry t) s = .next ((out.takeRead t₂ r (out.laterReadCourse r)).settle) := by
      rw [exec_holdTimerExpiry ht hd, State.timeOut_eq (s := later) ht, if_pos (by rw [write, inWait]; rfl),
        State.releaseReads_head (t := t₂) (r := r) (rest := more) (by rw [timedOut]) (by rw [timedOut]; exact entered) read hl
          fun t' ht' => ?_, timedOut, State.processRead, show State.request _ t₂ = some r from entered]
      have : t ≠ t' := by
        rintro rfl
        simp [others t ht'] at tLine
      rw [later.isForLine_timedOut w _ this]
      exact others t' ht'
    have loading : out.loadingBuffer r.line = none := by
      rw [hl]
      simp [State.loadingBuffer, show out.openBuffer w.line = none from ho]
    have course := State.laterReadCourse_past (s := out) loading (by rw [hl]; exact erase)
    refine ⟨fun j n body attempt hp hb => ?_, fun hp dirty ready => ?_⟩
    · have image : out.newestImage r.line = some body.image := by
        rw [hl]
        exact State.newestImage_of_programming (s := out) ho hp
          (by rw [show out.buffer j = .programming w.line n body attempt from hb]; rfl)
      have answered : out.laterReadCourse r = .answered body.image := by rw [course, image]
      rw [released, answered, State.takeRead, State.answerRead_of_some entered, State.settle_of_atRest (by exact rest)]
      simp only [out, List.append_assoc]
      rfl
    · have image : out.newestImage r.line = none := by
        rw [hl]
        exact State.newestImage_none (s := out) ho hp
      have array : out.laterReadCourse r = .array := by
        rw [course, image, hl]
        simp only
        rw [if_neg (by simp [show (out.block w.line.global).clean = false from dirty]),
          if_neg (by simp [Die.isOffline, show (out.die w.line.die).state = .ready from ready])]
      have empty := (Die.atRest_ready (rest w.line.die) ready).1
      have queued : out.queueArrayRead t₂ = out.modifyDie w.line.die fun y => y.joinReads entry := by
        unfold State.queueArrayRead
        rw [entered]
        simp only [hl, entry]
      let joined : State := out.modifyDie w.line.die fun y => y.joinReads entry
      have die : joined.die w.line.die = x.joinReads entry := by simp [joined]; rfl
      rw [released, array, State.takeRead, queued,
        State.settle_modifyDie (s := out) (u := joined) (d := w.line.die) (x := x.joinReads entry)
          (fun e _ => rest e) rfl,
        State.arbitrate_read (e := entry) (rest := []) (.inl (by rw [die]; exact ready))
          (by rw [die, Die.joinReads]; exact congrArg (· ++ [entry]) empty),
        State.sendRead, State.modifyDie, die]
      simp only [joined, out, State.modifyDie, State.setDie, State.send, Vector.set_set, Die.joinReads, ← empty]
      rfl

end Sys2Proof.Machine
end

section
/-! The messages and the timers of a die that touch no buffer but the one whose program starts: LINE_DATA for a host
read, HALTED, RESET_END and its limit, the guard and the hold-off (chapters 4 and 5). -/

namespace Sys2Proof.Machine

open Sys2Proof

/-! ## Messages that are not awaited -/

theorem Die.runningProgram_none {x : Die} (h₁ : ∀ p due guard, x.state ≠ .programming p due guard)
    (h₂ : ∀ p due h, x.state ≠ .halting (.program p) due h) : x.runningProgram = none := by
  unfold Die.runningProgram
  split
  · next hs => exact absurd hs (h₁ _ _ _)
  · next hs => exact absurd hs (h₂ _ _ _)
  · rfl

theorem Die.runningErase_none {x : Die} (h₁ : ∀ e due guard, x.state ≠ .erasing e due guard)
    (h₂ : ∀ e due h, x.state ≠ .halting (.erase e) due h) : x.runningErase = none := by
  unfold Die.runningErase
  split
  · next hs => exact absurd hs (h₁ _ _ _)
  · next hs => exact absurd hs (h₂ _ _ _)
  · rfl

/-- Settles O40: each message looks for the operation it ends and finds none. -/
theorem unawaitedMessagesDropped : Obligations.UnawaitedMessagesDropped := by
  unfold Obligations.UnawaitedMessagesDropped
  intro d data s x unchanged
  refine ⟨fun h => ?_, fun h₁ h₂ => ?_, fun h₁ h₂ => ?_, fun h => ?_, fun h₁ h₂ => ?_⟩
  · simp only [exec, execLineData]
    split
    · next hs => exact absurd hs (h _ _)
    · rfl
  · simp only [exec, execProgramEndPass, execProgramEndFail, show (s.die d).runningProgram = none from
      Die.runningProgram_none h₁ h₂]
    exact ⟨rfl, rfl⟩
  · simp only [exec, execEraseEndPass, execEraseEndFail, show (s.die d).runningErase = none from
      Die.runningErase_none h₁ h₂]
    exact ⟨rfl, rfl⟩
  · simp only [exec, execHalted]
    split
    · next hs => exact absurd hs (h _ _ _)
    · rfl
  · simp only [exec, execResetEnd]
    split
    · next hs => exact absurd hs (h₁ _)
    · next hs => exact absurd hs (h₂ _ _)
    · rfl

/-! ## A die that has become idle -/

theorem Die.idle_ready {x : Die} (h : x.context = []) : x.idle = { x with state := .ready } := by
  simp [Die.idle, Die.withState, h]

theorem Die.idle_halted {x : Die} (h : x.context ≠ []) : x.idle = { x with state := .halted none } := by
  simp [Die.idle, Die.withState, h]

/-- The head of the read queue is sent, with the whole next state. -/
theorem State.settle_sends {s u : State} {d : DieIx} {y : Die} {e : ReadEntry} {rest : List ReadEntry}
    (others : s.othersAtRest d) (dies : u.dies = s.dies.set d y)
    (idle : y.state = .ready ∨ ∃ holdOff, y.state = .halted holdOff) (reads : y.readQueue = e :: rest) :
    u.settle = { u with
      dies := s.dies.set d { y with state := .reading e (u.now + 8), readQueue := rest }
      out := { u.out with link := u.out.link ++ [(d, .readLine e.place.1 e.place.2)] } } := by
  have die := State.die_of_dies dies
  rw [State.settle_modifyDie others dies, State.arbitrate_read (by rw [die]; exact idle) (by rw [die]; exact reads),
    State.sendRead, State.modifyDie, die, State.setDie, dies, Vector.set_set]
  rfl

/-- The hold-off starts, with the whole next state (R98). -/
theorem State.settle_holdsOff {s u : State} {d : DieIx} {y : Die} (others : s.othersAtRest d)
    (dies : u.dies = s.dies.set d y) (halted : y.state = .halted none) (reads : y.readQueue = [])
    (holdOff : u.settings.holdOff ≠ 0) :
    u.settle = { u with
      dies := s.dies.set d { y with state := .halted (some (u.now + u.settings.holdOff)) } } := by
  have die := State.die_of_dies dies
  rw [State.settle_modifyDie others dies, State.arbitrate_holdOff (by rw [die]; exact halted) (by rw [die]; exact reads),
    State.startHoldOff_of_ne_zero holdOff, State.modifyDie, die, State.setDie, dies, Vector.set_set]
  rfl

/-- Settles O28: the die becomes idle, the read is answered, and the arbiter acts. -/
theorem lineDataAnswersHostRead : Obligations.LineDataAnswersHostRead := by
  unfold Obligations.LineDataAnswersHostRead
  intro d data b l tag due s x hx others
  have arrives : exec (.lineData d data) s =
      .next (((s.quiet.modifyDie d Die.idle).deliver data (.hostRead b l tag)).settle) := by
    simp only [exec, execLineData, show (s.die d).state = _ from hx]
  rw [arrives]
  refine ⟨fun t r htag hr context reads work => ?_, fun e rest htag reads => ?_, fun htag reads context holdOff => ?_⟩
  · subst htag
    have delivered : (s.quiet.modifyDie d Die.idle).deliver data (.hostRead b l (some t)) = { s with
        table := s.table.set t none
        responses := s.responses ++ [⟨t, .ok, some (r.readData data)⟩]
        dies := s.dies.set d { x with state := .ready }
        out := Outputs.none } := by
      rw [State.deliver, State.answerRead_of_some (s := s.quiet.modifyDie d Die.idle) (r := r) hr,
        ← Die.idle_ready context]
      rfl
    rw [delivered, State.settle_of_atRest (State.atRest_of_dies (s := s) others rfl (by simp [Die.atRest, reads, work]))]
    rfl
  · subst htag
    have idle : x.idle.state = .ready ∨ ∃ holdOff, x.idle.state = .halted holdOff := by
      by_cases context : x.context = []
      · exact .inl (by rw [Die.idle_ready context])
      · exact .inr ⟨none, by rw [Die.idle_halted context]⟩
    rw [State.deliver, State.settle_sends (s := s) (u := s.quiet.modifyDie d Die.idle) (y := x.idle) others rfl idle reads]
    rfl
  · subst htag
    rw [State.deliver, State.settle_holdsOff (s := s) (u := s.quiet.modifyDie d Die.idle) (y := x.idle) others rfl
      (by rw [Die.idle_halted context])
      reads holdOff]
    rfl

/-! ## HALTED -/

/-- Settles O35: the operation is pushed, and the arbiter acts on the HALTED die. -/
theorem haltedPushesContext : Obligations.HaltedPushesContext := by
  unfold Obligations.HaltedPushesContext
  intro d op due haltDue s x count hx others
  have pushed : exec (.halted d) s =
      .next ((s.quiet.modifyDie d fun y => y.pushHalted op (due - s.now)).settle) := by
    simp only [exec, execHalted, show (s.die d).state = _ from hx]
  have die : x.pushHalted op (due - s.now) =
      ⟨.halted none, x.readQueue, x.workQueue, x.context ++ [⟨op, due - s.now⟩], count⟩ := by
    simp only [count]
    cases op <;> rfl
  have dies : (s.quiet.modifyDie d fun y => y.pushHalted op (due - s.now)).dies =
      s.dies.set d ⟨.halted none, x.readQueue, x.workQueue, x.context ++ [⟨op, due - s.now⟩], count⟩ := by
    rw [← die]
    rfl
  rw [pushed]
  refine ⟨fun reads holdOff => ?_, fun e rest reads => ?_⟩
  · rw [State.settle_holdsOff (s := s) others dies rfl reads holdOff, reads]
    rfl
  · rw [State.settle_sends (s := s) others dies (.inr ⟨none, rfl⟩) reads]
    rfl

/-! ## RESET_END and the reset limit -/

/-- The mode once die `d` is not STARTING: the phase ends where no other fitted die is (R73, R178). -/
theorem State.endPhase_mode {s u : State} {d : DieIx} {y : Die} (dies : u.dies = s.dies.set d y)
    (dcount : u.dcount = s.dcount) (hy : y.isStarting = false) :
    u.endPhase = { u with
      mode := if ∃ d' : DieIx, d' ≠ d ∧ s.fitted d' = true ∧ (s.die d').isStarting = true then u.mode else .running } := by
  have starting (e : DieIx) : (u.die e).isStarting = true ↔ e ≠ d ∧ (s.die e).isStarting = true := by
    have read := s.die_setDie d e y
    rw [show u.die e = (s.setDie d y).die e by simp [State.die, dies], read]
    by_cases he : d = e
    · simp [he, hy]
    · simp [he, Ne.symm he]
  have fitted (e : DieIx) : u.fitted e = s.fitted e := by simp [State.fitted, State.fittedDies, dcount]
  have any : (u.fittedIndices.any fun e => (u.die e).isStarting) = true ↔
      ∃ d' : DieIx, d' ≠ d ∧ s.fitted d' = true ∧ (s.die d').isStarting = true := by
    rw [List.any_eq_true]
    constructor
    · rintro ⟨e, he, hs⟩
      rw [State.mem_fittedIndices, fitted] at he
      obtain ⟨hne, hs⟩ := (starting e).1 hs
      exact ⟨e, hne, he, hs⟩
    · rintro ⟨e, hne, he, hs⟩
      exact ⟨e, (u.mem_fittedIndices e).2 (by rw [fitted]; exact he), (starting e).2 ⟨hne, hs⟩⟩
  unfold State.endPhase
  by_cases h : ∃ d' : DieIx, d' ≠ d ∧ s.fitted d' = true ∧ (s.die d').isStarting = true
  · rw [if_pos (any.2 h), if_pos h]
  · rw [if_neg (mt any.1 h), if_neg h]

/-- Settles O36: the die leaves STARTING or its restart ends, and the phase ends with the last die. -/
theorem dieResetEnds : Obligations.DieResetEnds := by
  unfold Obligations.DieResetEnds
  intro d due s x mode
  refine ⟨fun hx reads work => ?_, fun hx => ?_, fun t hx => ?_, fun t hx => ?_⟩
  · have ends : exec (.resetEnd d) s =
        .next (((s.quiet.modifyDie d fun y => y.withState .ready).endPhase).arbitrate d) := by
      simp only [exec, execResetEnd, show (s.die d).state = _ from hx]
    rw [ends, State.endPhase_mode (s := s) (u := s.quiet.modifyDie d fun y => y.withState .ready) (d := d)
        (y := x.withState .ready) rfl rfl rfl,
      State.arbitrate_of_atRest]
    · rfl
    · rw [State.die_of_dies (s := s) (x := x.withState .ready) rfl]
      simp [Die.atRest, Die.withState, reads, work]
  · have ends : exec (.resetLimitExpiry d) s =
        .next ((((s.quiet.reach due).modifyDie d fun y => y.withState (.offline none)).writeFault
          (.dieTimeout .reset d none none)).endPhase) := by
      simp only [exec, execResetLimitExpiry, show (s.die d).state = _ from hx]
    rw [ends, State.writeFault_eq_recorded, State.endPhase_mode (s := s)
      (u := ((s.quiet.reach due).modifyDie d fun y => y.withState (.offline none)).recorded
        [.dieTimeout .reset d none none]) (d := d) (y := x.withState (.offline none)) rfl rfl rfl]
    rfl
  · simp only [exec, execResetEnd, show (s.die d).state = _ from hx]
    rfl
  · have ends : exec (.resetLimitExpiry d) s =
        .next ((((s.quiet.reach due).modifyDie d fun y => y.withState (.offline none)).writeFault
          (.dieTimeout .reset d none none)).complete (restartCompletion d t .failed)) := by
      simp only [exec, execResetLimitExpiry, show (s.die d).state = _ from hx]
    rw [ends, State.writeFault_eq_recorded]
    rfl

/-! ## Guard and hold-off -/

theorem ArrayOp.guardPassed_runningState {x : Die} {op : ArrayOp} {due : Nat} {guard : Option Nat}
    (h : x.state = op.runningState due guard) :
    x.guardDue? = guard ∧ x.guardPassed = { x with state := op.runningState due none } := by
  unfold Die.guardDue? Die.guardPassed
  cases op <;> rw [h] <;> exact ⟨rfl, rfl⟩

/-- Settles O38: the guard has passed, and the arbiter sends HALT where a read waits. -/
theorem guardExpiryHaltsForRead : Obligations.GuardExpiryHaltsForRead := by
  unfold Obligations.GuardExpiryHaltsForRead
  intro d op due guard s x hx
  obtain ⟨runs, passed⟩ := ArrayOp.guardPassed_runningState hx
  let later : State := (s.quiet.reach guard).modifyDie d Die.guardPassed
  have expires : exec (.guardExpiry d) s = .next (later.arbitrate d) := by
    simp only [exec, execGuardExpiry, show (s.die d).guardDue? = some guard from runs]
    rfl
  have dies : later.dies = s.dies.set d { x with state := op.runningState due none } := by
    rw [← passed]
    rfl
  have die := State.die_of_dies dies
  rw [expires]
  refine ⟨fun reads => ?_, fun reads => ?_⟩
  · rw [State.arbitrate_halt (op := op) (due := due) (by rw [die]) (by rw [die]; exact reads), State.sendHalt,
      State.modifyDie, die, State.setDie, dies, Vector.set_set]
    rfl
  · rw [State.arbitrate_running (op := op) (due := due) (guard := none) (by rw [die]) (.inr (by rw [die]; exact reads))]
    rw [← passed]
    rfl

/-- CONTINUE resumes the top operation (R101). -/
theorem State.sendContinue_of_context {s : State} {d : DieIx} {rest : List ContextEntry} {c : ContextEntry}
    (h : (s.die d).context = rest ++ [c]) :
    s.sendContinue d = { s with
      dies := s.dies.set d
        { s.die d with state := c.op.runningState (s.now + c.budget) s.guardPoint, context := rest }
      out := { s.out with link := s.out.link ++ [(d, .resume)] } } := by
  unfold State.sendContinue
  simp only [h, List.getLast?_append, List.getLast?_singleton, Option.some_or, State.modifyDie, List.dropLast_concat]
  rfl

theorem globalBlock_inj {d : DieIx} {b b' : BlockIx} (h : globalBlock d b = globalBlock d b') : b = b' := by
  have := congrArg Fin.val h
  simp only [globalBlock] at this
  exact Fin.ext (by omega)

/-- Settles O39: the interleave condition of R99 is that of the decision, and either outcome is one sent message. -/
theorem holdOffDecision : Obligations.HoldOffDecision := by
  unfold Obligations.HoldOffDecision
  intro d due s x now guard hx
  let later : State := (s.quiet.reach due).modifyDie d fun y => y.withState (.halted none)
  have expires : exec (.holdOffExpiry d) s = .next (later.decide d) := by
    simp only [exec, execHoldOffExpiry, show (s.die d).state = _ from hx]
    rfl
  have die : later.die d = { x with state := .halted none } := State.die_of_dies (s := s) rfl
  rw [expires]
  refine ⟨fun rest c context stays => ?_, fun e budget i more l n body attempt context work hb hdie hne below => ?_⟩
  · have none : later.interleaveCandidate d = none := by
      cases hc : later.interleaveCandidate d with
      | none => rfl
      | some i =>
        obtain ⟨e, budget, more, hcontext, hwork, block, unlinked, below⟩ := State.interleaveCandidate_some hc
        rw [die] at hcontext hwork below
        have split : rest = [] ∧ c = ⟨.erase e, budget⟩ := by
          rw [show ({ x with state := .halted none } : Die).context = rest ++ [c] from context] at hcontext
          exact List.append_eq_singleton_iff.mp hcontext |>.resolve_right (by simp) |>.imp id (by simp)
        obtain ⟨rfl, rfl⟩ := split
        rcases stays with h | ⟨p, h⟩ | h | h | ⟨j, more', hj, h⟩
        · exact absurd rfl h
        · cases h
        · exact absurd hwork (h i more)
        · exact absurd below (Nat.not_lt.2 h)
        · rw [show x.workQueue = _ from hwork] at hj
          cases hj
          rcases h with h | h
          · exact absurd (Option.not_isSome_iff_eq_none.1 (ne_of_eq_of_ne unlinked nofun)) h
          · exact absurd (block.symm.trans h) nofun
    unfold State.decide
    rw [none]
    simp only
    rw [State.sendContinue_of_context (rest := rest) (c := c) (by rw [die]; exact context), die]
    simp only [later, State.modifyDie, State.setDie, Vector.set_set]
    rfl
  · have facts : (later.buffer i).line? = some l ∧ (later.buffer i).predecessor? = none ∧
        later.startProgram d i = { later with
          buffers := later.buffers.set i (.programming l n body attempt)
          blocks := later.blocks.set l.global { later.block l.global with clean := false }
          dies := later.dies.set d { later.die d with
            state := .programming ⟨l.block, l.line, i⟩ (later.now + 3000) later.guardPoint
            workQueue := (later.die d).workQueue.erase (.program i) }
          out := { later.out with
            link := later.out.link ++ [(d, .programLine l.block l.line body.image (wordMask body.written))] } } := by
      rcases hb with ⟨hb, rfl⟩ | hb
      · have buffer : later.buffer i = .posted l n body none := hb
        exact ⟨by rw [buffer]; rfl, by rw [buffer]; rfl, State.startProgram_posted buffer⟩
      · have buffer : later.buffer i = .programming l n body attempt := hb
        exact ⟨by rw [buffer]; rfl, by rw [buffer]; rfl, State.startProgram_retry buffer⟩
    obtain ⟨line, unlinked, starts⟩ := facts
    have outside : (later.buffer i).inBlock (globalBlock d e.block) = false := by
      unfold Buffer.inBlock
      rw [line]
      simp only [beq_eq_false_iff_ne, ne_eq]
      intro same
      rw [LineAddr.global, hdie] at same
      exact hne (globalBlock_inj same)
    have candidate : later.interleaveCandidate d = some i := by
      unfold State.interleaveCandidate
      rw [die]
      simp only [context, work]
      rw [if_pos (by simp [outside, State.linked, unlinked]; exact below)]
    unfold State.decide
    rw [candidate]
    simp only
    have started := congrArg (State.die · d) starts
    rw [State.modifyDie, started.trans (State.die_of_dies (s := later) rfl), starts, die]
    simp only [later, State.modifyDie, State.setDie, Vector.set_set, work, List.erase_cons_head]
    rfl

end Sys2Proof.Machine
end

section
/-! The ends of a program and of an erase that fail: the requests of a list settled in order, the retry of a program,
and the end of a failed erase (sections 1.4, 4.7 and 6.5). -/

namespace Sys2Proof.Machine

open Sys2Proof

/-! ## Requests settled in order -/

/-- The outstanding-request table with the entries of these tags emptied. -/
def State.tableWithout (s : State) (ts : List Tag) : Vector (Option Request) 16 :=
  ts.foldl (fun v (t : Tag) => v.set t none) s.table

theorem getElem_foldl_set_none (ts : List Tag) (v : Vector (Option Request) 16) (t : Tag) :
    (ts.foldl (fun v (t : Tag) => v.set t none) v)[t] = if t ∈ ts then none else v[t] := by
  induction ts generalizing v with
  | nil => simp
  | cons t' ts ih =>
    rw [List.foldl_cons, ih]
    by_cases h : t = t'
    · subst h
      simp
    · have : (t' : Nat) ≠ t := fun e => h (Fin.ext e.symm)
      simp [h, this]

theorem State.request_of_tableWithout {s u : State} {ts : List Tag} (h : u.table = s.tableWithout ts) (t : Tag) :
    u.request t = if t ∈ ts then none else s.request t := by
  rw [State.request, h]
  exact getElem_foldl_set_none ts s.table t

theorem State.request_of_set_none {s u : State} {t t' : Tag} (h : u.table = s.table.set t none) (hne : t' ≠ t) :
    u.request t' = s.request t' := by
  have read := s.request_setRequest t t' none
  rw [if_neg (Ne.symm hne)] at read
  rw [← read, State.request, h]
  rfl

theorem State.answerAll_cons (s : State) (t : Tag) (ts : List Tag) (code : RespCode) :
    s.answerAll (t :: ts) code = (s.answerPlain t code).answerAll ts code := rfl

/-- Every request of a list is answered, in list order (R87, R174). -/
theorem State.answerAll_of_outstanding {s : State} {ts : List Tag} (nodup : ts.Nodup)
    (out : ∀ t ∈ ts, ∃ r, s.request t = some r) (code : RespCode) :
    s.answerAll ts code = { s with
      table := s.tableWithout ts, responses := s.responses ++ ts.map fun t => ⟨t, code, none⟩ } := by
  induction ts generalizing s with
  | nil => simp [State.answerAll, State.tableWithout]
  | cons t ts ih =>
    obtain ⟨hnew, nodup⟩ := List.nodup_cons.mp nodup
    obtain ⟨r, hr⟩ := out t List.mem_cons_self
    rw [State.answerAll_cons, State.answerPlain, State.answer_of_some hr, ih nodup fun t' ht' => ?_]
    · simp only [List.append_assoc]
      rfl
    · obtain ⟨r', hr'⟩ := out t' (List.mem_cons_of_mem _ ht')
      refine ⟨r', ?_⟩
      have hne : t' ≠ t := fun e => hnew (e ▸ ht')
      exact (State.request_of_set_none rfl hne).trans hr'

/-- The array reads that the host reads of a list become, in list order (R64). -/
def State.arrayReads (s : State) (ts : List Tag) : List ReadEntry :=
  (ts.filter fun t => !s.isWrite t).filterMap fun t =>
    (s.request t).map fun r => .hostRead r.line.block r.line.line (some t)

theorem State.isWrite_congr {s u : State} {t : Tag} (h : u.request t = s.request t) : u.isWrite t = s.isWrite t := by
  rw [State.isWrite, State.isWrite, h]

theorem State.filter_isWrite_congr {s u : State} {ts : List Tag} (h : ∀ t ∈ ts, u.request t = s.request t) :
    ts.filter u.isWrite = ts.filter s.isWrite :=
  List.filter_congr fun t ht => State.isWrite_congr (h t ht)

theorem State.arrayReads_congr {s u : State} {ts : List Tag} (h : ∀ t ∈ ts, u.request t = s.request t) :
    u.arrayReads ts = s.arrayReads ts := by
  rw [State.arrayReads, State.arrayReads, List.filter_congr fun t ht => by rw [State.isWrite_congr (h t ht)]]
  refine List.filterMap_congr fun t ht => ?_
  rw [h t (List.mem_filter.1 ht).1]

theorem State.isWrite_of_some {s : State} {t : Tag} {r : Request} (h : s.request t = some r) :
    s.isWrite t = r.payload.isWrite := by
  rw [State.isWrite, h]

/-- Requests settled as those of a FAILED block, in order: each write is answered FAULT(BLOCK_FAILED), and each read
joins the read queue of its die (R21, R120). -/
theorem State.foldl_settleHeld_failed {s : State} {d : DieIx} {ts : List Tag} (nodup : ts.Nodup)
    (here : ∀ t ∈ ts, ∃ r, s.request t = some r ∧ r.line.die = d) :
    ts.foldl (State.settleHeld .blockFailed) s = { s with
      table := s.tableWithout (ts.filter s.isWrite)
      responses := s.responses ++ (ts.filter s.isWrite).map fun t => ⟨t, .fault .blockFailed, none⟩
      dies := s.dies.set d { s.die d with readQueue := (s.die d).readQueue ++ s.arrayReads ts } } := by
  induction ts generalizing s with
  | nil =>
    have self : s.dies.set d (s.die d) = s.dies := Vector.set_getElem_self _
    simp [State.tableWithout, State.arrayReads, self]
  | cons t ts ih =>
    obtain ⟨hnew, nodup⟩ := List.nodup_cons.mp nodup
    obtain ⟨r, hr, hd⟩ := here t List.mem_cons_self
    have later {u : State} (same : ∀ t' ∈ ts, u.request t' = s.request t') :
        ∀ t' ∈ ts, ∃ r, u.request t' = some r ∧ r.line.die = d := fun t' ht' => by
      rw [same t' ht']
      exact here t' (List.mem_cons_of_mem _ ht')
    have write := s.isWrite_of_some hr
    rw [List.foldl_cons]
    by_cases hw : r.payload.isWrite = true
    · let u : State := { s with
        table := s.table.set t none, responses := s.responses ++ [⟨t, .fault .blockFailed, none⟩] }
      have step : State.settleHeld .blockFailed s t = u := by
        simp only [State.settleHeld, write, hw, if_true, State.answerPlain, State.answer_of_some hr]
        rfl
      have same : ∀ t' ∈ ts, u.request t' = s.request t' := fun t' ht' =>
         State.request_of_set_none rfl fun e => hnew (e ▸ ht')
      have reads : s.arrayReads (t :: ts) = s.arrayReads ts := by
        simp [State.arrayReads, write, hw]
      rw [step, ih nodup (later same), State.filter_isWrite_congr same, State.arrayReads_congr same, reads,
        List.filter_cons_of_pos (by rw [write, hw])]
      simp only [u, List.map_cons, List.append_assoc]
      rfl
    · let u : State := s.modifyDie d fun x => x.joinReads (.hostRead r.line.block r.line.line (some t))
      have read : s.isWrite t = false := by rw [write]; simpa using hw
      have step : State.settleHeld .blockFailed s t = u := by
        simp only [State.settleHeld, read, Bool.false_eq_true, if_false, State.queueArrayRead, hr, hd]
        rfl
      have same : ∀ t' ∈ ts, u.request t' = s.request t' := fun _ _ => rfl
      have reads : s.arrayReads (t :: ts) = .hostRead r.line.block r.line.line (some t) :: s.arrayReads ts := by
        simp [State.arrayReads, read, hr]
      have die : u.die d = (s.die d).joinReads (.hostRead r.line.block r.line.line (some t)) := by simp [u]
      rw [step, ih nodup (later same), State.filter_isWrite_congr same, State.arrayReads_congr same, reads,
        List.filter_cons_of_neg (by simp [read]), die]
      simp only [u, State.modifyDie, State.setDie, Vector.set_set, Die.joinReads, List.append_assoc,
        List.singleton_append]
      rfl

/-! ## A first PROGRAM_END FAIL -/

/-- With the die READY no hold-off decision is due (R103). -/
theorem State.decideAtOnce_ready {s : State} {d : DieIx} (h : (s.die d).state = .ready) : s.decideAtOnce d = s := by
  unfold State.decideAtOnce
  rw [h]

theorem State.recorded_single {s : State} {b : FaultBody} (h : s.faultLog.length < 16) :
    s.recorded [b] = { s with faultLog := s.faultLog ++ [⟨s.sequence, b⟩], sequence := s.sequence + 1 } := by
  rw [← State.writeFault_eq_recorded]
  exact if_pos h

/-- The die controller of an ended operation with no other is READY (R82). -/
theorem State.quiet_idle (s : State) {d : DieIx} (h : (s.die d).context = []) : s.quiet.modifyDie d Die.idle =
    { s with dies := s.dies.set d { s.die d with state := .ready }, out := Outputs.none } := by
  rw [State.modifyDie, show s.quiet.die d = s.die d from rfl, Die.idle_ready h]
  rfl

/-- A first FAIL at the pool (R19). -/
theorem State.programFailed_first {s : State} {i : BufIx} {l : LineAddr} {n : Nat} {body : LineBody}
    (hb : s.buffer i = .programming l n body 0) (room : s.faultLog.length < 16) : s.programFailed i = { s with
      buffers := s.buffers.set i (.programming l n body 1)
      faultLog := s.faultLog ++ [⟨s.sequence, .programRetried l⟩]
      sequence := s.sequence + 1
      dies := s.dies.set l.die { s.die l.die with workQueue := .program i :: (s.die l.die).workQueue } } := by
  unfold State.programFailed
  rw [hb]
  simp only [if_true]
  rw [State.writeFault_eq_recorded, State.recorded_single (by exact room)]
  rfl

/-- Settles O31: the retry is queued, and the arbiter starts it or sends a read ahead of it. -/
theorem firstProgramFailRetries : Obligations.FirstProgramFailRetries := by
  unfold Obligations.FirstProgramFailRetries
  intro d p l n body s x running hb hd context others room
  subst hd
  let failed : State := { s with
    buffers := s.buffers.set p.buffer (.programming l n body 1)
    faultLog := s.faultLog ++ [⟨s.sequence, .programRetried l⟩]
    sequence := s.sequence + 1
    dies := s.dies.set l.die { x with state := .ready, workQueue := .program p.buffer :: x.workQueue }
    out := Outputs.none }
  have queued : (s.quiet.modifyDie l.die Die.idle).programFailed p.buffer = failed := by
    let idle : State := { s with dies := s.dies.set l.die { x with state := .ready }, out := Outputs.none }
    rw [s.quiet_idle context, State.programFailed_first (s := idle) hb room,
      show idle.die l.die = { x with state := .ready } from State.die_of_dies (s := s) rfl]
    simp only [idle, Vector.set_set]
    rfl
  have die : failed.die l.die = { x with state := .ready, workQueue := .program p.buffer :: x.workQueue } :=
    State.die_of_dies (s := s) rfl
  have ends : exec (.programEndFail l.die) s = .next failed.settle := by
    simp only [exec, execProgramEndFail, show (s.die l.die).runningProgram = some p from running]
    rw [queued, State.decideAtOnce_ready (s := failed) (by rw [die])]
  have buffer : failed.buffer p.buffer = .programming l n body 1 := by simp [failed, State.buffer]
  rw [ends]
  refine ⟨fun reads guard => ?_, fun e rest reads => ?_⟩
  · rw [State.settle_modifyDie (s := s) (u := failed) others rfl,
      State.arbitrate_work (by rw [die]) (by rw [die]; exact reads),
      State.serveWork_program (rest := x.workQueue) (by rw [die]) (by rw [buffer]; rfl),
      State.startProgram_retry buffer, State.guardPoint_of_ne_zero (by exact guard), die, List.erase_cons_head]
    simp only [failed, Vector.set_set]
    rfl
  · rw [State.settle_sends (s := s) (u := failed) others rfl (.inl rfl) reads]
    rfl

/-! ## ERASE_END FAIL -/

theorem State.request_clearMarks (s : State) (g : GlobalBlock) (t : Tag) : (s.clearMarks g).request t =
    (s.request t).map fun r => if r.line.global = g then { r with mark := false } else r :=
  getElem_mapIndexed _ s.table t.val t.isLt

theorem State.isWrite_clearMarks (s : State) (g : GlobalBlock) (t : Tag) : (s.clearMarks g).isWrite t = s.isWrite t := by
  unfold State.isWrite
  rw [State.request_clearMarks]
  cases s.request t with
  | none => rfl
  | some r =>
    simp only [Option.map_some]
    split <;> rfl

theorem State.arrayReads_clearMarks (s : State) (g : GlobalBlock) (ts : List Tag) :
    (s.clearMarks g).arrayReads ts = s.arrayReads ts := by
  rw [State.arrayReads, State.arrayReads, List.filter_congr fun t _ => by rw [State.isWrite_clearMarks]]
  refine List.filterMap_congr fun t _ => ?_
  rw [State.request_clearMarks]
  cases s.request t with
  | none => rfl
  | some r =>
    simp only [Option.map_some]
    split <;> rfl

theorem Die.afterErase_ready {x : Die} (h : x.context = []) : x.afterErase = { x with state := .ready, interleave := 0 } := by
  rw [Die.afterErase, Die.idle_ready h]

theorem State.quiet_afterErase (s : State) {d : DieIx} (h : (s.die d).context = []) :
    s.quiet.modifyDie d Die.afterErase =
      { s with dies := s.dies.set d { s.die d with state := .ready, interleave := 0 }, out := Outputs.none } := by
  rw [State.modifyDie, show s.quiet.die d = s.die d from rfl, Die.afterErase_ready h]
  rfl

theorem dieOf_global (l : LineAddr) : dieOf l.global = l.die := by
  ext
  simp only [dieOf, LineAddr.global, globalBlock]
  omega

theorem dieOf_globalBlock (d : DieIx) (b : BlockIx) : dieOf (globalBlock d b) = d := by
  ext
  simp only [dieOf, globalBlock]
  omega

/-- Settles O34: the block and its records, and the hold list settled in order. -/
theorem eraseFailMakesBlockFailed : Obligations.EraseFailMakesBlockFailed := by
  unfold Obligations.EraseFailMakesBlockFailed
  intro d e s x g held writes reads running context noReads noWork others nodup inBlock
  let v : State := { s.recorded [.eraseFail d e.block] with
    blocks := s.blocks.set g ⟨(s.block g).lock, .failed, .none, false, []⟩
    table := (s.clearMarks g).table
    completions := s.completions ++ [⟨e.ticket, .erase, .failed, .die d, some g⟩]
    dies := s.dies.set d { x with state := .ready, interleave := 0 }
    out := Outputs.none }
  have failed : (s.quiet.modifyDie d Die.afterErase).eraseFailed d e = held.foldl (State.settleHeld .blockFailed) v := by
    rw [s.quiet_afterErase context]
    simp only [State.eraseFailed, State.writeFault_eq_recorded]
    rfl
  have request (t : Tag) : v.request t = (s.clearMarks g).request t := rfl
  have die : v.die d = { x with state := .ready, interleave := 0 } := State.die_of_dies (s := s) rfl
  have here : ∀ t ∈ held, ∃ r, v.request t = some r ∧ r.line.die = d := fun t ht => by
    obtain ⟨r, hr, hg⟩ := inBlock t ht
    refine ⟨{ r with mark := false }, ?_, ?_⟩
    · rw [request, State.request_clearMarks, hr, Option.map_some, if_pos hg]
    · rw [← dieOf_global, show r.line.global = _ from hg, dieOf_globalBlock]
  have isWrite : held.filter v.isWrite = writes :=
    (State.filter_isWrite_congr (s := s.clearMarks g) fun t _ => request t).trans
      (List.filter_congr fun t _ => s.isWrite_clearMarks g t)
  have arrayReads : v.arrayReads held = reads :=
    (State.arrayReads_congr (s := s.clearMarks g) fun t _ => request t).trans (s.arrayReads_clearMarks g held)
  let w : State := { v with
    table := v.tableWithout writes
    responses := s.responses ++ writes.map fun t => ⟨t, .fault .blockFailed, none⟩
    dies := s.dies.set d { x with state := .ready, readQueue := reads, interleave := 0 } }
  have settled : held.foldl (State.settleHeld .blockFailed) v = w := by
    rw [State.foldl_settleHeld_failed nodup here, isWrite, arrayReads, die, show x.readQueue = [] from noReads]
    simp only [v, w, Vector.set_set, List.nil_append]
    rfl
  have ends : exec (.eraseEndFail d) s = .next w.settle := by
    simp only [exec, execEraseEndFail, show (s.die d).runningErase = some e from running]
    rw [failed, settled]
  have answered (t : Tag) : w.request t = if t ∈ writes then none
      else (s.request t).map fun r => if r.line.global = g then { r with mark := false } else r := by
    rw [State.request_of_tableWithout (s := v) (ts := writes) rfl t, request, State.request_clearMarks]
  cases hreads : reads with
  | nil =>
    have idle : Die.atRest { x with state := .ready, readQueue := reads, interleave := 0 } = true := by
      simp only [Die.atRest]
      rw [hreads, noWork]
      rfl
    have rest : w.settle = w := State.settle_of_atRest (State.atRest_of_dies (s := s) others rfl idle)
    refine ⟨w, by rw [ends, rest], ?_, answered⟩
    simp only [w, v, hreads, ← show x.readQueue = [] from noReads]
    rfl
  | cons r more =>
    refine ⟨_, ends.trans (congrArg Host.Outcome.next
      (State.settle_sends (s := s) (u := w) others rfl (.inl rfl) (by rw [← hreads]))), ?_, answered⟩
    simp only [w, v]
    rfl

end Sys2Proof.Machine
end

section
/-! CHANNEL_RESET: what it answers, records and cancels, and what it makes of each die and block (sections 9.8 and
10.3). -/

namespace Sys2Proof.Machine

open Sys2Proof

/-! ## The blocks of unfinished operations -/

theorem globalBlock_eq_iff (d : DieIx) (b : BlockIx) (g : GlobalBlock) :
    globalBlock d b = g ↔ dieOf g = d ∧ blockOf g = b := by
  simp only [globalBlock, dieOf, blockOf, Fin.ext_iff]
  omega

/-- The block as R86 step 3 leaves one under an unfinished operation. -/
def BlockRecord.underLostOp (b : BlockRecord) : BlockRecord := { b with health := .failed, clean := false }

theorem State.block_foldl_underLostOp (d : DieIx) (ops : List ArrayOp) (s : State) (g : GlobalBlock) :
    (ops.foldl (fun s (op : ArrayOp) => s.modifyBlock (globalBlock d op.block) BlockRecord.underLostOp) s).block g =
      if dieOf g = d ∧ ∃ op ∈ ops, op.block = blockOf g then (s.block g).underLostOp else s.block g := by
  induction ops generalizing s with
  | nil => simp
  | cons op ops ih =>
    rw [List.foldl_cons, ih, s.block_modifyBlock]
    by_cases hg : globalBlock d op.block = g
    · obtain ⟨hd, hb⟩ := (globalBlock_eq_iff _ _ _).1 hg
      have found : dieOf g = d ∧ ∃ o ∈ op :: ops, o.block = blockOf g := ⟨hd, op, List.mem_cons_self, hb.symm⟩
      rw [if_pos hg, if_pos found, hg]
      split <;> rfl
    · rw [if_neg hg]
      have same : (dieOf g = d ∧ ∃ o ∈ op :: ops, o.block = blockOf g) ↔ dieOf g = d ∧ ∃ o ∈ ops, o.block = blockOf g := by
        refine and_congr_right fun hd => ?_
        simp only [List.mem_cons, exists_eq_or_imp, or_iff_right_iff_imp]
        exact fun hb => absurd ((globalBlock_eq_iff _ _ _).2 ⟨hd, hb.symm⟩) hg
      simp only [same]

/-- The blocks of a die's unfinished operations are FAILED, and no other block changes (R86). -/
theorem State.block_failUnfinished (s : State) (d : DieIx) (g : GlobalBlock) : (s.failUnfinished d).block g =
    if dieOf g = d ∧ ∃ op ∈ (s.die d).unfinished, op.block = blockOf g then (s.block g).underLostOp else s.block g :=
  State.block_foldl_underLostOp d _ s g

/-! ## The dies are reset -/

theorem Die.isOffline_channelReset (x : Die) (now : Nat) : (x.channelReset now).isOffline = x.isOffline := by
  unfold Die.channelReset
  cases h : x.isOffline <;> rfl

theorem State.isOffline_resetDie (s : State) (d e : DieIx) :
    ((s.resetDie d).die e).isOffline = (s.die e).isOffline := by
  rw [s.die_resetDie]
  split
  · exact Die.isOffline_channelReset _ _
  · rfl

theorem State.out_failUnfinished (s : State) (d : DieIx) : (s.failUnfinished d).out = s.out := by
  rw [s.failUnfinished_eq]

/-- RESET_DIE is sent to each die of the list that is not OFFLINE (R176). -/
theorem State.out_foldl_resetDie (ds : List DieIx) (s : State) : (ds.foldl State.resetDie s).out = { s.out with
    link := s.out.link ++ (ds.filter fun d => !(s.die d).isOffline).map fun d => (d, .resetDie) } := by
  induction ds generalizing s with
  | nil => simp
  | cons d ds ih =>
    rw [List.foldl_cons, ih]
    simp only [s.isOffline_resetDie]
    unfold State.resetDie
    by_cases h : (s.die d).isOffline = true
    · rw [if_pos h, List.filter_cons_of_neg (by simp [h])]
      rfl
    · rw [if_neg h, List.filter_cons_of_pos (by simp [h]), State.send_out]
      simp [State.out_failUnfinished]

/-- A die's reset makes its blocks under unfinished operations FAILED (R176). -/
theorem State.block_resetDie (s : State) (d : DieIx) (g : GlobalBlock) : (s.resetDie d).block g =
    if (s.die d).isOffline = false ∧ dieOf g = d ∧ ∃ op ∈ (s.die d).unfinished, op.block = blockOf g then
      (s.block g).underLostOp else s.block g := by
  unfold State.resetDie
  by_cases h : (s.die d).isOffline = true
  · rw [if_pos h, if_neg (by simp [h])]
    rfl
  · rw [if_neg h]
    refine (s.block_failUnfinished d g).trans ?_
    simp [h]

theorem State.block_foldl_resetDie {ds : List DieIx} (nodup : ds.Nodup) (s : State) (g : GlobalBlock) :
    (ds.foldl State.resetDie s).block g =
      if dieOf g ∈ ds ∧ (s.die (dieOf g)).isOffline = false ∧ ∃ op ∈ (s.die (dieOf g)).unfinished, op.block = blockOf g then
        (s.block g).underLostOp else s.block g := by
  induction ds generalizing s with
  | nil => simp
  | cons d ds ih =>
    obtain ⟨hnew, nodup⟩ := List.nodup_cons.mp nodup
    rw [List.foldl_cons, ih nodup, s.block_resetDie, s.die_resetDie]
    by_cases hg : dieOf g = d
    · subst hg
      simp [hnew]
    · simp [hg, Ne.symm hg]

theorem State.nodup_fittedIndices (s : State) : s.fittedIndices.Nodup := List.Nodup.filter _ (by decide)

/-- Every fitted die reset, and every block without its erase, its clean flag and its hold list (R176). -/
theorem State.block_resetDies (s : State) (g : GlobalBlock) : s.resetDies.block g = ⟨(s.block g).lock,
    if s.fitted (dieOf g) = true ∧ (s.die (dieOf g)).isOffline = false ∧
      ∃ op ∈ (s.die (dieOf g)).unfinished, op.block = blockOf g then .failed else (s.block g).health,
    .none, false, []⟩ := by
  unfold State.resetDies
  rw [State.block_mapBlocks, State.block_foldl_resetDie s.nodup_fittedIndices]
  simp only [s.mem_fittedIndices]
  split <;> rfl

theorem State.out_resetDies (s : State) : s.resetDies.out = { s.out with
    link := s.out.link ++ (dieIndices.filter fun d => s.fitted d && !(s.die d).isOffline).map fun d => (d, .resetDie) } := by
  refine (State.out_foldl_resetDie s.fittedIndices s).trans ?_
  rw [State.fittedIndices, List.filter_filter]
  simp only [Bool.and_comm]

/-! ## The command -/

/-- Each outstanding request is answered, so that none is left (R174). -/
theorem State.tableWithout_outstandingTags (s : State) :
    s.tableWithout s.outstandingTags = Vector.replicate 16 none := by
  ext t ht : 1
  have read := getElem_foldl_set_none s.outstandingTags s.table ⟨t, ht⟩
  refine Eq.trans read ?_
  rw [Vector.getElem_replicate]
  split
  · rfl
  · next absent =>
    by_contra outstanding
    refine absent (List.mem_filter.2 ⟨mem_tagIndices _, ?_⟩)
    exact Option.isSome_iff_ne_none.2 outstanding

theorem State.recorded_one (s : State) (b : FaultBody) : s.recorded [b] = { s with
    faultLog := if s.faultLog.length < 16 then s.faultLog ++ [⟨s.sequence, b⟩] else s.faultLog
    overflow := s.overflow || Decidable.decide (16 ≤ s.faultLog.length)
    sequence := s.sequence + 1 } := by
  rw [← State.writeFault_eq_recorded]
  unfold State.writeFault Config.faultLogRoom
  by_cases room : s.faultLog.length < 16
  · simp [room, Nat.not_le.2 room]
  · simp [room, Nat.not_lt.1 room]

/-- The traffic of a part answered and discarded, with its RESET_DISCARD record (R174). -/
theorem State.clearTraffic_eq (s : State) : s.clearTraffic = { s with
    mode := .resetting
    table := Vector.replicate 16 none
    responses := s.responses ++ s.outstandingTags.map fun t => ⟨t, .aborted, none⟩
    buffers := Vector.replicate 12 .free
    waitList := []
    faultLog := if s.faultLog.length < 16 then s.faultLog ++ [⟨s.sequence, s.resetDiscard⟩] else s.faultLog
    overflow := s.overflow || Decidable.decide (16 ≤ s.faultLog.length)
    sequence := s.sequence + 1 } := by
  have nodup : s.outstandingTags.Nodup := List.Nodup.filter _ (by decide)
  have out : ∀ t ∈ s.outstandingTags, ∃ r, s.request t = some r := fun t ht =>
    Option.isSome_iff_exists.1 (List.mem_filter.1 ht).2
  unfold State.clearTraffic
  rw [State.answerAll_of_outstanding nodup out, s.tableWithout_outstandingTags, State.writeFault_eq_recorded,
    State.recorded_one]

/-- The phase that begins ends at once where no die was reset (R178). -/
theorem State.endPhase_resetDies (s : State) : s.resetDies.endPhase = { s.resetDies with
    mode := if ∃ d, (s.fitted d && !(s.die d).isOffline) = true then s.mode else .running } := by
  have starting (d : DieIx) : (s.resetDies.die d).isStarting = true ∧ s.fitted d = true ↔
      (s.fitted d && !(s.die d).isOffline) = true := by
    rw [s.die_resetDies]
    by_cases fitted : s.fitted d = true
    · rw [if_pos fitted, Die.channelReset]
      cases offline : (s.die d).isOffline <;> simp [fitted, Die.empty, Die.isStarting]
    · simp [fitted]
  have indices : s.resetDies.fittedIndices = s.fittedIndices := by
    rw [s.resetDies_eq]
    rfl
  have any : (s.resetDies.fittedIndices.any fun d => (s.resetDies.die d).isStarting) = true ↔
      ∃ d, (s.fitted d && !(s.die d).isOffline) = true := by
    rw [List.any_eq_true, indices]
    refine exists_congr fun d => ?_
    rw [s.mem_fittedIndices, ← starting d, and_comm]
  have mode : s.resetDies.mode = s.mode := by
    rw [s.resetDies_eq]
  unfold State.endPhase
  by_cases live : ∃ d, (s.fitted d && !(s.die d).isOffline) = true
  · rw [if_pos (any.2 live), if_pos live, ← mode]
  · rw [if_neg (mt any.1 live), if_neg live]

/-- Settles O54: the traffic is cleared, the tickets cancelled and the dies reset, each as its own lemma says. -/
theorem channelResetClearsTraffic : Obligations.ChannelResetClearsTraffic := by
  unfold Obligations.ChannelResetClearsTraffic
  intro s completing running live written tags
  obtain ⟨v, hv⟩ : ∃ v, v = s.quiet.clearTraffic.cancelTickets := ⟨_, rfl⟩
  have begins : exec .channelReset s = .next (v.resetDies.endPhase.conclude .channelReset ⟨.accepted, []⟩) := by
    rw [show Instr.channelReset = MgmtCommand.completion .channelReset from rfl, exec_of_completing completing nofun,
      hv]
    have act : actionOf .channelReset s.quiet =
        (s.quiet.clearTraffic.cancelTickets.resetDies.endPhase, ⟨.accepted, []⟩) :=
      State.unlessBusy_running (s := s.quiet) running
    rw [act]
  rw [State.clearTraffic_eq] at hv
  have fitted (d : DieIx) : v.fitted d = s.fitted d := by rw [hv]; rfl
  have die (d : DieIx) : v.die d = s.die d := by rw [hv]; rfl
  have block (g : GlobalBlock) : v.block g = s.block g := by rw [hv]; rfl
  have now : v.now = s.now := by rw [hv]; rfl
  have alive : (fun d => v.fitted d && !(v.die d).isOffline) = live := funext fun d => by rw [fitted, die]
  have out : v.resetDies.out = ⟨(dieIndices.filter live).map fun d => (d, .resetDie), none, []⟩ := by
    rw [v.out_resetDies, alive, hv]
    rfl
  refine ⟨_, begins, ?_, fun d => ?_, fun g => ?_⟩
  · have ended : v.resetDies.endPhase = { v with
        mode := if ∃ d, live d = true then .resetting else .running
        blocks := v.resetDies.blocks, dies := v.resetDies.dies
        out := ⟨(dieIndices.filter live).map fun d => (d, .resetDie), none, []⟩ } := by
      rw [v.endPhase_resetDies, ← out, ← alive, v.resetDies_eq, hv]
      rfl
    rw [ended, hv]
    rfl
  · have dies : v.resetDies.endPhase.die d = v.resetDies.die d := by rw [State.endPhase_eq]; rfl
    refine dies.trans ((v.die_resetDies d).trans ?_)
    rw [fitted, die, now]
    by_cases hf : s.fitted d = true
    · rw [if_pos hf, if_neg (by simp [hf]), Die.channelReset]
      simp only [live, hf, Bool.true_and]
      cases (s.die d).isOffline <;> rfl
    · rw [if_neg hf, if_pos (by simpa using hf)]
  · have blocks : v.resetDies.endPhase.block g = v.resetDies.block g := by rw [State.endPhase_eq]; rfl
    refine blocks.trans ((v.block_resetDies g).trans ?_)
    rw [block, fitted, die]
    simp only [live, Bool.and_eq_true, Bool.not_eq_true', and_assoc]

end Sys2Proof.Machine
end

section
/-! Base arrival: the held list of a LOADING buffer taken in order, and a buffer that becomes FREE (sections 1.2 and
1.6). -/

namespace Sys2Proof.Machine

open Sys2Proof

/-! ## The held list in order -/

/-- One read of the held list (R9). -/
theorem State.baseStep_read {s : State} {i : BufIx} {t : Tag} {r : Request} {body : LineBody}
    (hr : s.request t = some r) (read : r.payload.isWrite = false) (hb : (s.buffer i).body? = some body) :
    State.baseStep i s t = { s with
      table := s.table.set t none, responses := s.responses ++ [⟨t, .ok, some (r.readData body.image)⟩] } := by
  unfold State.baseStep
  rw [if_neg (by rw [s.isWrite_of_some hr, read]; simp), hb]
  exact State.answerRead_of_some hr _

/-- One write of the held list that fits the buffer's body (R9, R10). -/
theorem State.baseStep_merged {s : State} {i : BufIx} {t : Tag} {r : Request} {l : LineAddr} {n : Nat} {body : LineBody}
    {p : Option BufIx} {due : Option Nat} (hr : s.request t = some r) (write : r.payload.isWrite = true)
    (hb : s.buffer i = .filling l n body p due) (fits : r.fits r.judgedMode body = true) :
    State.baseStep i s t = { s with
      table := s.table.set t none, responses := s.responses ++ [⟨t, .ok, none⟩]
      buffers := s.buffers.set i (.filling l n (body.overlay r) p s.coalescePoint) } := by
  unfold State.baseStep State.judge
  rw [if_pos (by rw [s.isWrite_of_some hr, write]), hr, hb]
  simp only [Buffer.body?]
  rw [if_pos fits, State.merge, hb]
  exact State.answer_of_some (s := s.setBuffer i _) hr _ _

/-- One write of the held list that does not fit (R9, R47). -/
theorem State.baseStep_refused {s : State} {i : BufIx} {t : Tag} {r : Request} {body : LineBody}
    (hr : s.request t = some r) (write : r.payload.isWrite = true) (hb : (s.buffer i).body? = some body)
    (refused : r.fits r.judgedMode body = false) :
    State.baseStep i s t = { s with
      table := s.table.set t none, responses := s.responses ++ [⟨t, .refused r.judgedMode.refusal, none⟩] } := by
  unfold State.baseStep State.judge
  rw [if_pos (by rw [s.isWrite_of_some hr, write]), hr, hb]
  simp only
  rw [if_neg (by simp [refused])]
  exact State.answer_of_some hr _ _

/-- The held list is taken as `meetInOrder` takes it; the coalesce timer runs once something is merged (R9). -/
theorem State.foldl_baseStep {s : State} {i : BufIx} {l : LineAddr} {n : Nat} {body : LineBody} {due : Option Nat}
    {pairs : List (Tag × Request)} (hb : s.buffer i = .filling l n body none due)
    (nodup : (pairs.map Prod.fst).Nodup) (out : ∀ q ∈ pairs, s.request q.1 = some q.2) :
    ∃ due', (due' = s.coalescePoint ∨ due' = due ∧ (meetInOrder Request.judgedMode body pairs).1 = body) ∧
      (pairs.map Prod.fst).foldl (State.baseStep i) s = { s with
        table := s.tableWithout (pairs.map Prod.fst)
        responses := s.responses ++ (meetInOrder Request.judgedMode body pairs).2
        buffers := s.buffers.set i (.filling l n (meetInOrder Request.judgedMode body pairs).1 none due') } := by
  induction pairs generalizing s body due with
  | nil =>
    refine ⟨due, .inr ⟨rfl, rfl⟩, ?_⟩
    have self : s.buffers.set i (.filling l n body none due) = s.buffers := by
      rw [← hb]
      exact Vector.set_getElem_self _
    simp [State.tableWithout, self]
  | cons q rest ih =>
    obtain ⟨t, r⟩ := q
    obtain ⟨hnew, nodup⟩ := List.nodup_cons.mp nodup
    have hr : s.request t = some r := out (t, r) List.mem_cons_self
    have later {u : State} (table : u.table = s.table.set t none) : ∀ q ∈ rest, u.request q.1 = some q.2 :=
      fun q hq => by
        have hne : q.1 ≠ t := fun e => hnew (List.mem_map.2 ⟨q, hq, e⟩)
        rw [State.request_of_set_none table hne]
        exact out q (List.mem_cons_of_mem _ hq)
    rw [List.map_cons, List.foldl_cons]
    by_cases write : r.payload.isWrite = true
    · by_cases fits : r.fits r.judgedMode body = true
      · obtain ⟨due', hdue, done⟩ := ih (s := { s with
          table := s.table.set t none, responses := s.responses ++ [⟨t, .ok, none⟩]
          buffers := s.buffers.set i (.filling l n (body.overlay r) none s.coalescePoint) })
          (body := body.overlay r) (due := s.coalescePoint) (by simp [State.buffer]) nodup (later rfl)
        refine ⟨due', .inl (hdue.elim id And.left), ?_⟩
        rw [State.baseStep_merged hr write hb fits, done, meetInOrder_merged _ _ _ _ _ write fits]
        simp only [Vector.set_set, List.append_assoc]
        rfl
      · rw [Bool.not_eq_true] at fits
        obtain ⟨due', hdue, done⟩ := ih (s := { s with
          table := s.table.set t none, responses := s.responses ++ [⟨t, .refused r.judgedMode.refusal, none⟩] })
          hb nodup (later rfl)
        refine ⟨due', ?_, ?_⟩
        · rw [meetInOrder_refused _ _ _ _ _ write fits]
          exact hdue
        · rw [State.baseStep_refused hr write (by rw [hb]; rfl) fits, done, meetInOrder_refused _ _ _ _ _ write fits]
          simp only [List.append_assoc]
          rfl
    · rw [Bool.not_eq_true] at write
      obtain ⟨due', hdue, done⟩ := ih (s := { s with
        table := s.table.set t none, responses := s.responses ++ [⟨t, .ok, some (r.readData body.image)⟩] })
        hb nodup (later rfl)
      refine ⟨due', ?_, ?_⟩
      · rw [meetInOrder_read _ _ _ _ _ write]
        exact hdue
      · rw [State.baseStep_read hr write (by rw [hb]; rfl), done, meetInOrder_read _ _ _ _ _ write]
        simp only [List.append_assoc]
        rfl

/-! ## Flushes whose last member is FREE -/

/-- Buffers leave the flushes of which they were members, and a flush with no member left completes (R28). -/
theorem State.completeFlushes_without {s u : State} (gone : BufIx → Bool)
    (h : u.flushes = s.flushes.map fun f => { f with members := f.members.filter fun i => !gone i }) :
    u.completeFlushes = { u with
      flushes := (s.flushes.map fun f => { f with members := f.members.filter fun i => !gone i }).filter
        fun f => f.members ≠ []
      completions := u.completions ++
        (s.flushes.filter fun f => f.members.all gone).map fun f => ⟨f.ticket, .flush, .done, f.scope, none⟩ } := by
  have kept (fs : List FlushRecord) : (fs.filter fun f => !f.members.isEmpty) = fs.filter fun f => f.members ≠ [] :=
    List.filter_congr fun f _ => by cases f.members <;> rfl
  have ended (fs : List FlushRecord) :
      ((fs.map fun f : FlushRecord => { f with members := f.members.filter fun i => !gone i }).filter
        fun f => f.members.isEmpty).map (fun f => f.completion .done) =
      (fs.filter fun f => f.members.all gone).map fun f => ⟨f.ticket, .flush, .done, f.scope, none⟩ := by
    induction fs with
    | nil => rfl
    | cons f fs ih =>
      have empty : (f.members.filter fun i => !gone i).isEmpty = f.members.all gone := by
        rw [Bool.eq_iff_iff, List.isEmpty_iff, List.filter_eq_nil_iff, List.all_eq_true]
        simp
      rw [List.map_cons, List.filter_cons, List.filter_cons, empty]
      split
      · rw [List.map_cons, ih, List.map_cons]
        rfl
      · exact ih
  unfold State.completeFlushes
  rw [h, kept, ended]

/-- A buffer becomes FREE with nobody waiting for it (R18, R28). -/
theorem State.afterFree_freeBuffer {s : State} (idle : s.noWriteWaits) (i : BufIx) : (s.freeBuffer i).afterFree = { s with
    buffers := (s.freeBuffer i).buffers
    flushes := (s.flushes.map fun f => { f with members := f.members.filter (· != i) }).filter fun f => f.members ≠ []
    completions := s.completions ++
      (s.flushes.filter fun f => f.members.all (· == i)).map fun f => ⟨f.ticket, .flush, .done, f.scope, none⟩ } := by
  rw [State.afterFree_idle (s := s.freeBuffer i) idle,
    State.completeFlushes_without (s := s) (u := s.freeBuffer i) (· == i) rfl]
  rfl

/-! ## The base arrives -/

theorem writtenCount_pos_iff (w : ByteSet) : 0 < writtenCount w ↔ ∃ p : Fin 64, w[p] = true := by
  rw [writtenCount, List.countP_pos_iff]
  constructor
  · rintro ⟨b, hb, h⟩
    obtain ⟨p, hp, rfl⟩ := List.getElem_of_mem hb
    exact ⟨⟨p, by simpa using hp⟩, by simpa using h⟩
  · rintro ⟨p, h⟩
    exact ⟨w[p], by simp, h⟩

theorem written_fresh (base : LineImage) (p : Fin 64) : (LineBody.fresh base).written[p] = false := by
  simp [LineBody.fresh]

/-- The state in which the held list of buffer `i` has been taken in order. -/
def State.arrived (s : State) (i : BufIx) (line : LineAddr) (n : Nat) (pairs : List (Tag × Request))
    (met : LineBody × List Response) (due : Option Nat) : State :=
  { s with
    table := s.tableWithout (pairs.map Prod.fst)
    responses := s.responses ++ met.2
    buffers := s.buffers.set i (.filling line n met.1 none due) }

theorem State.buffer_arrived (s : State) (i : BufIx) (line : LineAddr) (n : Nat) (pairs : List (Tag × Request))
    (met : LineBody × List Response) (due : Option Nat) :
    (s.arrived i line n pairs met due).buffer i = .filling line n met.1 none due := by
  simp [State.arrived, State.buffer]

/-- The base arrives, and the buffer keeps its line where something was merged (R9). -/
theorem State.baseArrival_eq {s : State} {i : BufIx} {line : LineAddr} {n : Nat} {pairs : List (Tag × Request)}
    {data : LineImage} {met : LineBody × List Response} (hb : s.buffer i = .loading line n (pairs.map Prod.fst))
    (nodup : (pairs.map Prod.fst).Nodup) (out : ∀ q ∈ pairs, s.request q.1 = some q.2)
    (hmet : meetInOrder Request.judgedMode (.fresh data) pairs = met) :
    ∃ due, (due = s.coalescePoint ∨ met.1 = .fresh data) ∧ s.baseArrival i data =
      if 0 < writtenCount met.1.written then (s.arrived i line n pairs met due).postIfCaused i
      else ((s.arrived i line n pairs met due).freeBuffer i).afterFree := by
  have buffer : (s.setBuffer i (.filling line n (.fresh data) none none)).buffer i =
      .filling line n (.fresh data) none none := by simp
  obtain ⟨due, hdue, done⟩ := State.foldl_baseStep buffer nodup out
  rw [hmet] at hdue done
  refine ⟨due, hdue.imp id And.right, ?_⟩
  have arrived : (pairs.map Prod.fst).foldl (State.baseStep i)
      (s.setBuffer i (.filling line n (.fresh data) none none)) = s.arrived i line n pairs met due := by
    rw [done]
    simp only [State.arrived, State.setBuffer, Vector.set_set]
    rfl
  unfold State.baseArrival
  rw [hb]
  simp only
  rw [arrived, s.buffer_arrived]
  rfl

theorem State.othersAtRest_set {s u : State} {d : DieIx} {x : Die} (h : s.othersAtRest d)
    (dies : u.dies = s.dies.set d x) : u.othersAtRest d :=
  State.othersAtRest_of_dies h fun e he => by
    have other := s.die_setDie d e x
    rw [if_neg (Ne.symm he)] at other
    rw [← other]
    simp [State.die, dies]

/-- Settles O29: the held list is taken in order, and the buffer is FILLING, POSTED and started, or FREE. -/
theorem lineDataLoadsBase : Obligations.LineDataLoadsBase := by
  unfold Obligations.LineDataLoadsBase
  intro d data b k i due line n pairs s x held met hx others context reads work hb nodup outstanding
  obtain ⟨v, hv⟩ : ∃ v, v = ({ s with dies := s.dies.set d { x with state := .ready }, out := Outputs.none } : State) :=
    ⟨_, rfl⟩
  have arrives : exec (.lineData d data) s = .next (v.baseArrival i data).settle := by
    simp only [exec, execLineData, show (s.die d).state = _ from hx]
    rw [s.quiet_idle context, hv]
    rfl
  have out : ∀ q ∈ pairs, v.request q.1 = some q.2 := fun q hq => by
    rw [hv]
    exact (outstanding q hq).1
  obtain ⟨point, hpoint, arrival⟩ := State.baseArrival_eq (s := v) (data := data) (by rw [hv]; exact hb) nodup out
    (show meetInOrder Request.judgedMode (.fresh data) pairs = met from rfl)
  have request {u : State} (table : u.table = v.tableWithout held) (t : Tag) :
      u.request t = if t ∈ held then none else s.request t := by
    rw [State.request_of_tableWithout table, hv]
    rfl
  have buffer := v.buffer_arrived i line n pairs met point
  have dies {u : State} (same : u.dies = v.dies) : u.dies = s.dies.set d { x with state := .ready } := by
    rw [same, hv]
  have die : v.die d = { x with state := .ready } := State.die_of_dies (dies rfl)
  have idleDie : Die.atRest { x with state := .ready } = true := by
    simp only [Die.atRest]
    rw [reads, work]
    rfl
  have causes : (v.arrived i line n pairs met point).postsNow i line met.1 ↔ s.postsNow i line met.1 := by
    rw [hv]
    exact Iff.rfl
  have restarts (written : ∃ p : Fin 64, met.1.written[p] = true) : point = v.coalescePoint :=
    hpoint.resolve_right fun fresh => by
      obtain ⟨p, hp⟩ := written
      rw [fresh, written_fresh] at hp
      cases hp
  have rest {u : State} (same : u.dies = v.dies) : u.settle = u :=
    State.settle_of_atRest (State.atRest_of_dies others (dies same) idleDie)
  rw [arrives, arrival]
  refine ⟨fun written stays => ?_, fun written posts hline guard => ?_, fun none idle => ?_⟩
  · have window : s.settings.coalesceWindow ≠ 0 := fun w => stays (.inr (.inl w))
    have running : point = some (s.now + s.settings.coalesceWindow) := by
      rw [restarts written, hv]
      exact State.coalescePoint_of_ne_zero window
    rw [if_pos ((writtenCount_pos_iff _).2 written), State.postIfCaused_stays buffer (mt causes.1 stays)]
    refine ⟨_, congrArg Host.Outcome.next (rest rfl), ?_, request rfl⟩
    rw [running, hv]
    rfl
  · subst hline
    rw [if_pos ((writtenCount_pos_iff _).2 written), State.postIfCaused_posts buffer (causes.2 posts),
      State.settle_post_starts buffer
        (State.othersAtRest_set others (dies rfl)) (congrArg Die.state die) ((congrArg Die.readQueue die).trans reads)
        ((congrArg Die.workQueue die).trans work) (by rw [hv]; exact guard)]
    refine ⟨_, rfl, ?_, request rfl⟩
    rw [show (v.arrived i line n pairs met point).die line.die = _ from die]
    simp only [State.arrived, Vector.set_set]
    rw [hv]
    simp only [Vector.set_set]
    rfl
  · have empty : ¬ 0 < writtenCount met.1.written := fun pos => by
      obtain ⟨p, hp⟩ := (writtenCount_pos_iff _).1 pos
      rw [none p] at hp
      cases hp
    have nobody : (v.arrived i line n pairs met point).noWriteWaits := fun t ht => by
      have waits : s.isWrite t = false := idle t (by rw [hv] at ht; exact ht)
      have entry := request (u := v.arrived i line n pairs met point) rfl t
      by_cases taken : t ∈ held
      · rw [if_pos taken] at entry
        rw [State.isWrite, entry]
      · rw [if_neg taken] at entry
        rw [State.isWrite_congr entry, waits]
    rw [if_neg empty, State.afterFree_freeBuffer nobody]
    refine ⟨_, congrArg Host.Outcome.next (rest rfl), ?_, request rfl, fun j => ?_, ?_, ?_⟩
    · rw [hv]
      rfl
    · refine (State.buffer_freeBuffer _ i j).trans ?_
      by_cases hj : j = i
      · rw [if_pos hj, if_pos hj]
      · have kept : (v.arrived i line n pairs met point).buffer j = s.buffer j := by
          refine ((v.buffer_setBuffer i j _).trans (if_neg (Ne.symm hj))).trans ?_
          rw [hv]
          rfl
        rw [if_neg hj, if_neg hj, kept]
    · rw [hv]
      rfl
    · rw [hv]
      rfl

end Sys2Proof.Machine
end

section
/-! Requests taken up again once what held them back has ended: admission made again, the requests of a line meeting
its buffer in order, and the end of an erase that passes (sections 2.5, 3.1 and 6.5). -/

namespace Sys2Proof.Machine

open Sys2Proof

/-! ## Requests that are answered one by one -/

theorem State.noWriteWaits_of_set_none {s u : State} {t : Tag} (h : s.noWriteWaits) (waits : u.waitList = s.waitList)
    (table : u.table = s.table.set t none) : u.noWriteWaits := by
  intro t' ht'
  by_cases hne : t' = t
  · subst hne
    rw [State.isWrite, State.request, table]
    simp
  · rw [State.isWrite_congr (State.request_of_set_none table hne)]
    exact h t' (waits ▸ ht')

/-- A list of requests of which each is answered, whatever the answers of those ahead of it (R49, R53). -/
theorem State.foldl_answers {f : State → Tag → State} {P : State → Prop} {respond : Tag × Request → Response}
    {pairs : List (Tag × Request)} {s : State} (nodup : (pairs.map Prod.fst).Nodup)
    (out : ∀ q ∈ pairs, s.request q.1 = some q.2) (holds : P s)
    (keeps : ∀ (u : State) (t : Tag) (r : Response), P u →
      P { u with table := u.table.set t none, responses := u.responses ++ [r] })
    (step : ∀ (u : State), P u → ∀ q ∈ pairs, u.request q.1 = some q.2 →
      f u q.1 = { u with table := u.table.set q.1 none, responses := u.responses ++ [respond q] }) :
    (pairs.map Prod.fst).foldl f s = { s with
      table := s.tableWithout (pairs.map Prod.fst), responses := s.responses ++ pairs.map respond } := by
  induction pairs generalizing s with
  | nil => simp [State.tableWithout]
  | cons q rest ih =>
    obtain ⟨hnew, nodup⟩ := List.nodup_cons.mp nodup
    rw [List.map_cons, List.foldl_cons, step s holds q List.mem_cons_self (out q List.mem_cons_self),
      ih nodup (fun p hp => ?_) (keeps s q.1 (respond q) holds) fun u hu p hp => step u hu p (List.mem_cons_of_mem _ hp)]
    · simp only [List.map_cons, List.append_assoc]
      rfl
    · have hne : p.1 ≠ q.1 := fun e => hnew (List.mem_map.2 ⟨p, hp, e⟩)
      exact (State.request_of_set_none rfl hne).trans (out p (List.mem_cons_of_mem _ hp))

/-! ## Admission made again -/

/-- A write that passes every step of admission is admitted, also into a block under erase where it is marked
(R36 to R43). -/
theorem State.verdict_admitted {s : State} {r : Request} {m : AdmittedMode}
    (live : (s.die r.line.die).isOffline = false) (healthy : (s.block r.line.global).health = .healthy)
    (unheld : (s.block r.line.global).erase = .none ∨ r.mark = true) (unlocked : (s.block r.line.global).lock = .opened)
    (region : (s.regionOf r.line.global).map RegionEntry.mode =
      some (match m with
        | .combine => .combine
        | .appendOnce => .appendOnce))
    (covers : r.coversNothing = false) : s.verdict r = .admitted m := by
  obtain ⟨e, he, hm⟩ := Option.map_eq_some_iff.mp region
  unfold State.verdict
  rw [if_neg (by simp [live]), if_neg (by simp [healthy]), if_neg (by rintro ⟨h₁, h₂⟩; simp [h₂] at unheld; exact h₁ unheld)]
  simp only [he]
  cases m <;> simp only at hm <;> simp [hm, unlocked, covers]

/-- A write of a SHUT block in a writable region is refused LOCKED (R42). -/
theorem State.verdict_locked {s : State} {r : Request} (live : (s.die r.line.die).isOffline = false)
    (healthy : (s.block r.line.global).health = .healthy)
    (unheld : (s.block r.line.global).erase = .none ∨ r.mark = true) (shut : (s.block r.line.global).lock = .shut)
    (region : (s.regionOf r.line.global).map RegionEntry.mode = some .combine ∨
      (s.regionOf r.line.global).map RegionEntry.mode = some .appendOnce) :
    s.verdict r = .answered (.refused .locked) := by
  unfold State.verdict
  rw [if_neg (by simp [live]), if_neg (by simp [healthy]), if_neg (by rintro ⟨h₁, h₂⟩; simp [h₂] at unheld; exact h₁ unheld)]
  rcases region with region | region <;> obtain ⟨e, he, hm⟩ := Option.map_eq_some_iff.mp region <;>
    simp [he, hm, shut]

/-- The outstanding write of tag `t` once admission has stamped it. -/
theorem State.stampMode_eq (s : State) (t : Tag) (r : Request) (m : AdmittedMode) :
    s.stampMode t r m = { s with table := s.table.set t (some (r.admitted m)) } := rfl

theorem State.request_stampMode (s : State) (t : Tag) (r : Request) (m : AdmittedMode) :
    (s.stampMode t r m).request t = some (r.admitted m) := by
  simp [State.stampMode, Request.admitted]

theorem State.processWrite_admitted {s : State} {t : Tag} {r : Request} {m : AdmittedMode}
    {course : State → LineAddr → Course} (hr : s.request t = some r) (hv : s.verdict r = .admitted m) :
    s.processWrite course t = (s.stampMode t r m).take t (course s r.line) := by
  unfold State.processWrite
  rw [hr]
  simp only
  rw [hv]

theorem State.processWrite_answered {s : State} {t : Tag} {r : Request} {code : RespCode}
    {course : State → LineAddr → Course} (hr : s.request t = some r) (hv : s.verdict r = .answered code) :
    s.processWrite course t = { s with
      table := s.table.set t none, responses := s.responses ++ [⟨t, code, none⟩] } := by
  unfold State.processWrite
  rw [hr]
  simp only
  rw [hv]
  exact State.answer_of_some hr _ _

theorem State.processVia_write {s : State} {t : Tag} {r : Request} {reads : State → Request → ReadCourse}
    (hr : s.request t = some r) (write : r.payload.isWrite = true) :
    s.processVia reads t = s.processWrite State.course t :=
  if_pos (by rw [s.isWrite_of_some hr, write])

theorem State.processVia_read {s : State} {t : Tag} {r : Request} {reads : State → Request → ReadCourse}
    (hr : s.request t = some r) (read : r.payload.isWrite = false) :
    s.processVia reads t = s.takeRead t r (reads s r) := by
  unfold State.processVia
  rw [if_neg (by rw [s.isWrite_of_some hr, read]; simp), State.processRead, hr]

/-! ## A stamped write meets a buffer -/

/-- A stamped write is answered: its entry is emptied. -/
theorem State.answer_stamped {s u : State} {t : Tag} {r : Request} (table : u.table = s.table.set t (some r))
    (code : RespCode) (data : Option (List Byte)) : u.answer t code data =
      { u with table := s.table.set t none, responses := u.responses ++ [⟨t, code, data⟩] } := by
  have entry : u.request t = some r := by simp [State.request, table]
  rw [State.answer_of_some entry, table, Vector.set_set]

theorem State.meet_stamped_merged {s : State} {t : Tag} {r : Request} {m : AdmittedMode} {i : BufIx} {l : LineAddr}
    {n : Nat} {body : LineBody} {p : Option BufIx} {due : Option Nat} (hb : s.buffer i = .filling l n body p due)
    (fits : r.fits m body = true) : (s.stampMode t r m).meet i t = State.postIfCaused { s with
      table := s.table.set t none
      responses := s.responses ++ [⟨t, .ok, none⟩]
      buffers := s.buffers.set i (.filling l n (body.overlay r) p s.coalescePoint) } i := by
  have buffer : (s.stampMode t r m).buffer i = .filling l n body p due := hb
  unfold State.meet
  rw [s.request_stampMode, buffer]
  simp only [Buffer.body?]
  rw [if_pos (by exact fits)]
  unfold State.merge
  rw [buffer]
  exact congrArg (State.postIfCaused · i)
    (State.answer_stamped (s := s) (u := (s.stampMode t r m).setBuffer i _) rfl .ok none)

theorem State.meet_stamped_refused {s : State} {t : Tag} {r : Request} {m : AdmittedMode} {i : BufIx}
    {body : LineBody} (hb : (s.buffer i).body? = some body) (refused : r.fits m body = false) :
    (s.stampMode t r m).meet i t = { s with
      table := s.table.set t none, responses := s.responses ++ [⟨t, .refused m.refusal, none⟩] } := by
  unfold State.meet
  rw [s.request_stampMode, show ((s.stampMode t r m).buffer i).body? = some body from hb]
  simp only
  rw [if_neg (by exact ne_of_eq_of_ne refused nofun)]
  exact State.answer_stamped (s := s) rfl _ _

/-- Every write passes the conflict check against an erased base with nothing written (R45, R46). -/
theorem Request.fits_erased (r : Request) (m : AdmittedMode) : r.fits m (.fresh erasedLine) = true := by
  refine (r.fits_iff m _).2 fun p _ => ?_
  have base : (LineBody.fresh erasedLine).base[p] = 0xFF := by simp [LineBody.fresh, erasedLine]
  rw [base, written_fresh]
  cases m <;> simp [byteFits]

/-- A stamped write that fits its base opens its buffer, is merged and answered, and the posting causes are looked at
(R5, R10). -/
theorem State.openWithBase_of_stampMode {s : State} {t : Tag} {r : Request} {m : AdmittedMode} {i : BufIx}
    {base : LineImage} {link : Option BufIx} (fits : r.fits m (.fresh base) = true) :
    (s.stampMode t r m).openWithBase i t base link = State.postIfCaused { s with
      table := s.table.set t none
      responses := s.responses ++ [⟨t, .ok, none⟩]
      buffers := s.buffers.set i (.filling r.line s.openCounter ((LineBody.fresh base).overlay r) link s.coalescePoint)
      openCounter := s.openCounter + 1 } i := by
  unfold State.openWithBase
  rw [s.request_stampMode]
  simp only
  rw [if_pos (by exact fits)]
  refine congrArg (State.postIfCaused · i) ?_
  have opened : ((s.stampMode t r m).openAs i fun n => .filling r.line n (.fresh base) link none).buffer i =
      .filling r.line s.openCounter (.fresh base) link none := by
    simp [State.openAs, State.buffer]
    rfl
  unfold State.merge
  rw [show (r.admitted m).line = r.line from rfl, opened]
  simp only
  rw [State.answerPlain, State.answer_stamped (s := s) (r := r.admitted m) rfl]
  simp only [State.openAs, State.setBuffer, Vector.set_set, LineBody.overlay_admitted]
  rfl

/-- With no buffer FREE a write waits, and nothing is posted where no buffer is FILLING (R23, R24). -/
theorem State.writeJoinsWait_noFilling {s : State} {t : Tag} (h : ∀ j, (s.buffer j).isFilling = false) :
    s.writeJoinsWait t = s.joinWait t := (pressurePostsOldest (s.joinWait t)).2 h

theorem State.handOverLoop_full {s : State} (full : s.lowestFree = none) (fuel : Nat) :
    State.handOverLoop fuel s = s := by
  cases fuel with
  | zero => rfl
  | succ n =>
    unfold State.handOverLoop
    rw [full]

theorem State.afterFree_full {s : State} (full : s.lowestFree = none) (flushes : s.flushesOpen) : s.afterFree = s := by
  unfold State.afterFree
  rw [State.completeFlushes_of_open flushes]
  exact State.handOverLoop_full full _

theorem State.lowestFree_congr {s u : State} (h : u.buffers = s.buffers) : u.lowestFree = s.lowestFree := by
  simp only [State.lowestFree, State.buffer, h]

theorem State.openBuffer_congr {s u : State} (h : u.buffers = s.buffers) (l : LineAddr) :
    u.openBuffer l = s.openBuffer l := by
  simp only [State.openBuffer, State.buffer, h]

theorem State.regionOf_congr {s u : State} (h : u.regions = s.regions) (g : GlobalBlock) :
    u.regionOf g = s.regionOf g := by
  simp only [State.regionOf, h]

/-! ## The requests of a line meet its buffer in order -/

theorem written_overlay {body : LineBody} {p : Fin 64} (r : Request) (h : body.written[p] = true) :
    (body.overlay r).written[p] = true := by
  refine (getElem_mapIndexed (fun p old => old || r.covers p) body.written p.val p.isLt).trans ?_
  rw [show body.written[p.val] = true from h]
  rfl

theorem written_meetInOrder {mode : Request → AdmittedMode} {body : LineBody} {pairs : List (Tag × Request)} {p : Fin 64}
    (h : body.written[p] = true) : (meetInOrder mode body pairs).1.written[p] = true := by
  induction pairs generalizing body with
  | nil => exact h
  | cons q rest ih =>
    obtain ⟨t, r⟩ := q
    by_cases write : r.payload.isWrite = true
    · by_cases fits : r.fits (mode r) body = true
      · rw [meetInOrder_merged _ _ _ _ _ write fits]
        exact ih (written_overlay r h)
      · rw [meetInOrder_refused _ _ _ _ _ write (by simpa using fits)]
        exact ih h
    · rw [meetInOrder_read _ _ _ _ _ (by simpa using write)]
      exact ih h

/-- A posting cause that holds for a body holds for one with more written (R10, R14). -/
theorem State.postsNow_mono {s : State} {i : BufIx} {l : LineAddr} {body body' : LineBody}
    (h : ∀ p : Fin 64, body.written[p] = true → body'.written[p] = true) (posts : s.postsNow i l body) :
    s.postsNow i l body' :=
  posts.imp (fun full p => h p (full p)) id

theorem State.openBuffer_of_alone {s : State} {l : LineAddr} {i : BufIx} (hi : (s.buffer i).line? = some l)
    (hp : (s.buffer i).isProgramming = false) (alone : ∀ j, j ≠ i → (s.buffer j).line? ≠ some l) :
    s.openBuffer l = some i := by
  cases ho : s.openBuffer l with
  | none => exact absurd (State.openBuffer_none ho i hi) (by simp [hp])
  | some j =>
    by_contra hne
    exact alone j (fun e => hne (by rw [e])) (State.openBuffer_some ho).1

/-- What a write of line `l` finds when it is taken up again and buffer `i` alone can hold its line: steps 2 to 6 admit
it in mode `m`, and no write waits (R36 to R43). -/
structure State.Admitting (s : State) (l : LineAddr) (i : BufIx) (m : AdmittedMode) : Prop where
  live : (s.die l.die).isOffline = false
  healthy : (s.block l.global).health = .healthy
  unerased : (s.block l.global).erase = .none
  unlocked : (s.block l.global).lock = .opened
  region : (s.regionOf l.global).map RegionEntry.mode =
    some (match m with
      | .combine => .combine
      | .appendOnce => .appendOnce)
  alone : ∀ j, j ≠ i → (s.buffer j).line? ≠ some l
  idle : s.noWriteWaits

theorem State.Admitting.verdict {s : State} {l : LineAddr} {i : BufIx} {m : AdmittedMode} (h : s.Admitting l i m)
    {r : Request} (hl : r.line = l) (covers : r.coversNothing = false) : s.verdict r = .admitted m := by
  subst hl
  exact State.verdict_admitted h.live h.healthy (.inl h.unerased) h.unlocked h.region covers

/-- The answer of a request, with buffer `i` rewritten, leaves the other requests of the line what they find. -/
theorem State.Admitting.answered {s u : State} {l : LineAddr} {i : BufIx} {m : AdmittedMode} {t : Tag} {b : Buffer}
    (h : s.Admitting l i m) (table : u.table = s.table.set t none) (buffers : u.buffers = s.buffers.set i b)
    (same : u = { s with table := u.table, responses := u.responses, buffers := u.buffers }) : u.Admitting l i m where
  live := by rw [same]; exact h.live
  healthy := by rw [same]; exact h.healthy
  unerased := by rw [same]; exact h.unerased
  unlocked := by rw [same]; exact h.unlocked
  region := by rw [same]; exact h.region
  alone j hj := by
    have kept := s.buffer_setBuffer i j b
    rw [if_neg (Ne.symm hj)] at kept
    rw [show u.buffer j = s.buffer j by rw [← kept]; simp [State.buffer, buffers]]
    exact h.alone j hj
  idle := State.noWriteWaits_of_set_none h.idle (by rw [same]) table

/-- With the line's buffer FILLING a request that is taken up again meets it. -/
theorem State.Admitting.course {s : State} {l : LineAddr} {i : BufIx} {m : AdmittedMode} {n : Nat} {body : LineBody}
    {p : Option BufIx} {due : Option Nat} (h : s.Admitting l i m) (hb : s.buffer i = .filling l n body p due) :
    s.course l = .meet i :=
  (State.course_of_buffer (State.writeWaits_of_noWriteWaits h.idle l)).trans
    (State.bufferCourse_meet (State.openBuffer_of_alone (by rw [hb]; rfl) (by rw [hb]; rfl) h.alone) (by rw [hb]; rfl))

theorem State.Admitting.readCourse {s : State} {l : LineAddr} {i : BufIx} {m : AdmittedMode} {n : Nat} {body : LineBody}
    {p : Option BufIx} {due : Option Nat} (h : s.Admitting l i m) (hb : s.buffer i = .filling l n body p due)
    {r : Request} (hl : r.line = l) : s.readCourse r = .answered body.image := by
  subst hl
  have opened : s.openBuffer r.line = some i :=
    State.openBuffer_of_alone (by rw [hb]; rfl) (by rw [hb]; rfl) h.alone
  have loading : s.loadingBuffer r.line = none := by
    simp [State.loadingBuffer, opened, hb, Buffer.isLoading]
  rw [State.readCourse_of_later (State.writeWaits_of_noWriteWaits h.idle _),
    State.laterReadCourse_past loading h.unerased, State.newestImage_of_open opened (by rw [hb]; rfl)]

/-- The requests of a line, taken up again one by one, meet its FILLING buffer as `meetInOrder` says, where no posting
cause arises (R4, R10, R49, R53). -/
theorem State.foldl_process_meets {s : State} {l : LineAddr} {i : BufIx} {m : AdmittedMode} {n : Nat} {body : LineBody}
    {pairs : List (Tag × Request)} (h : s.Admitting l i m) (hb : s.buffer i = .filling l n body none s.coalescePoint)
    (nodup : (pairs.map Prod.fst).Nodup) (out : ∀ q ∈ pairs, s.request q.1 = some q.2) (lines : ∀ q ∈ pairs, q.2.line = l)
    (covers : ∀ q ∈ pairs, q.2.payload.isWrite = true → q.2.coversNothing = false)
    (stays : ¬ s.postsNow i l (meetInOrder (fun _ => m) body pairs).1) :
    (pairs.map Prod.fst).foldl State.process s = { s with
      table := s.tableWithout (pairs.map Prod.fst)
      responses := s.responses ++ (meetInOrder (fun _ => m) body pairs).2
      buffers := s.buffers.set i (.filling l n (meetInOrder (fun _ => m) body pairs).1 none s.coalescePoint) } := by
  induction pairs generalizing s body with
  | nil =>
    have self : s.buffers.set i (.filling l n body none s.coalescePoint) = s.buffers := by
      rw [← hb]
      exact Vector.set_getElem_self _
    simp [State.tableWithout, self]
  | cons q rest ih =>
    obtain ⟨t, r⟩ := q
    obtain ⟨hnew, nodup⟩ := List.nodup_cons.mp nodup
    have hr : s.request t = some r := out (t, r) List.mem_cons_self
    have hl : r.line = l := lines (t, r) List.mem_cons_self
    have later {u : State} (table : u.table = s.table.set t none) : ∀ q ∈ rest, u.request q.1 = some q.2 :=
      fun q hq => by
        have hne : q.1 ≠ t := fun e => hnew (List.mem_map.2 ⟨q, hq, e⟩)
        rw [State.request_of_set_none table hne]
        exact out q (List.mem_cons_of_mem _ hq)
    have next {u : State} {body' : LineBody} (hu : u.Admitting l i m)
        (hb' : u.buffer i = .filling l n body' none u.coalescePoint) (table : u.table = s.table.set t none)
        (stays : ¬ u.postsNow i l (meetInOrder (fun _ => m) body' rest).1) :=
      ih hu hb' nodup (later table) (fun q hq => lines q (List.mem_cons_of_mem _ hq))
        (fun q hq => covers q (List.mem_cons_of_mem _ hq)) stays
    rw [List.map_cons, List.foldl_cons, State.process]
    by_cases write : r.payload.isWrite = true
    · have meets : s.processVia State.readCourse t = (s.stampMode t r m).meet i t := by
        rw [State.processVia_write hr write,
          State.processWrite_admitted hr (h.verdict hl (covers (t, r) List.mem_cons_self write)), hl, h.course hb]
        rfl
      by_cases fits : r.fits m body = true
      · rw [meetInOrder_merged _ _ _ _ _ write fits] at stays ⊢
        obtain ⟨u, hu⟩ : ∃ u, u = ({ s with
            table := s.table.set t none
            responses := s.responses ++ [⟨t, .ok, none⟩]
            buffers := s.buffers.set i (.filling l n (body.overlay r) none s.coalescePoint) } : State) := ⟨_, rfl⟩
        have buffer : u.buffer i = .filling l n (body.overlay r) none u.coalescePoint := by
          rw [hu]
          exact (s.buffer_setBuffer i i _).trans (if_pos rfl)
        have same (b : LineBody) : u.postsNow i l b ↔ s.postsNow i l b := by
          rw [hu]
          exact Iff.rfl
        have filling : (s.stampMode t r m).meet i t = u := by
          rw [State.meet_stamped_merged hb fits, ← hu, State.postIfCaused_stays buffer]
          exact fun posts => stays ((same _).1 (State.postsNow_mono (fun p => written_meetInOrder) posts))
        rw [meets, filling, next (h.answered (u := u) (by rw [hu]) (by rw [hu]) (by rw [hu])) buffer (by rw [hu])
          (mt (same _).1 stays), hu]
        simp only [Vector.set_set, List.append_assoc]
        rfl
      · rw [Bool.not_eq_true] at fits
        rw [meetInOrder_refused _ _ _ _ _ write fits] at stays ⊢
        rw [meets, State.meet_stamped_refused (by rw [hb]; rfl) fits,
          next (u := { s with
            table := s.table.set t none, responses := s.responses ++ [⟨t, .refused m.refusal, none⟩] })
            (h.answered (b := s.buffer i) rfl (Vector.set_getElem_self _).symm rfl) hb rfl stays]
        simp only [List.append_assoc]
        rfl
    · rw [Bool.not_eq_true] at write
      rw [meetInOrder_read _ _ _ _ _ write] at stays ⊢
      rw [State.processVia_read hr write, h.readCourse hb hl, State.takeRead, State.answerRead_of_some hr,
        next (u := { s with
          table := s.table.set t none, responses := s.responses ++ [⟨t, .ok, some (r.readData body.image)⟩] })
          (h.answered (b := s.buffer i) rfl (Vector.set_getElem_self _).symm rfl) hb rfl stays]
      simp only [List.append_assoc]
      rfl

end Sys2Proof.Machine
end

section
/-! ERASE_END PASS: the block is clean, and its hold list is released in order (section 6.5). -/

namespace Sys2Proof.Machine

open Sys2Proof

/-- The request without its pre-erase mark (R40). -/
def Request.unmarked (r : Request) : Request := { r with mark := false }

theorem meetInOrder_unmarked (m : AdmittedMode) (body : LineBody) (pairs : List (Tag × Request)) :
    meetInOrder (fun _ => m) body (pairs.map fun q => (q.1, q.2.unmarked)) = meetInOrder (fun _ => m) body pairs := by
  induction pairs generalizing body with
  | nil => rfl
  | cons q rest ih =>
    obtain ⟨t, r⟩ := q
    rw [List.map_cons]
    by_cases write : r.payload.isWrite = true
    · by_cases fits : r.fits m body = true
      · rw [meetInOrder_merged _ _ _ _ _ (by exact write) (by exact fits), meetInOrder_merged _ _ _ _ _ write fits, ih]
        rfl
      · rw [Bool.not_eq_true] at fits
        rw [meetInOrder_refused _ _ _ _ _ (by exact write) (by exact fits), meetInOrder_refused _ _ _ _ _ write fits, ih]
    · rw [Bool.not_eq_true] at write
      rw [meetInOrder_read _ _ _ _ _ (by exact write), meetInOrder_read _ _ _ _ _ write, ih]
      rfl

theorem State.noWriteWaits_of_tableWithout {s u : State} {ts : List Tag} (h : s.noWriteWaits)
    (waits : u.waitList = s.waitList) (table : u.table = s.tableWithout ts) : u.noWriteWaits := by
  intro t ht
  have entry := State.request_of_tableWithout table t
  by_cases taken : t ∈ ts
  · rw [if_pos taken] at entry
    rw [State.isWrite, entry]
  · rw [if_neg taken] at entry
    rw [State.isWrite_congr entry]
    exact h t (waits ▸ ht)

/-- The state in which a passed erase has settled its block and its ticket, before the hold list is released (R119). -/
def State.eraseEnded (s : State) (d : DieIx) (e : EraseOp) : State :=
  let g := globalBlock d e.block
  { s with
    blocks := s.blocks.set g ⟨(s.block g).lock, .healthy, .none, true, []⟩
    table := (s.clearMarks g).table
    completions := s.completions ++ [⟨e.ticket, .erase, .done, .die d, some g⟩]
    dies := s.dies.set d { s.die d with state := .ready, interleave := 0 }
    out := Outputs.none }

theorem State.request_eraseEnded (s : State) (d : DieIx) (e : EraseOp) (t : Tag) :
    (s.eraseEnded d e).request t =
      (s.request t).map fun r => if r.line.global = globalBlock d e.block then r.unmarked else r :=
  s.request_clearMarks _ t

theorem State.block_eraseEnded (s : State) (d : DieIx) (e : EraseOp) :
    (s.eraseEnded d e).block (globalBlock d e.block) =
      ⟨(s.block (globalBlock d e.block)).lock, .healthy, .none, true, []⟩ := by
  simp [State.eraseEnded, State.block]

theorem exec_eraseEndPass {d : DieIx} {e : EraseOp} {s : State} (running : (s.die d).runningErase = some e)
    (context : (s.die d).context = []) : exec (.eraseEndPass d) s =
      .next ((((s.block (globalBlock d e.block)).holdList.foldl State.process (s.eraseEnded d e)).afterFree).settle) := by
  have passed : (s.quiet.modifyDie d Die.afterErase).erasePassed d e =
      ((s.block (globalBlock d e.block)).holdList.foldl State.process (s.eraseEnded d e)).afterFree := by
    rw [s.quiet_afterErase context]
    rfl
  simp only [exec, execEraseEndPass, running]
  rw [passed]

/-- Settles O33: the hold list is taken in order, each request by the step of admission or of the read steps that the
clean block leaves it. -/
theorem erasePassMakesBlockClean : Obligations.ErasePassMakesBlockClean := by
  unfold Obligations.ErasePassMakesBlockClean
  intro d e pairs s x g held clean unmarked record running context noReads noWork others idle flushes hheld nodup outstanding
  obtain ⟨v, hv⟩ : ∃ v, v = s.eraseEnded d e := ⟨_, rfl⟩
  have ends : exec (.eraseEndPass d) s = .next ((held.foldl State.process v).afterFree).settle := by
    rw [exec_eraseEndPass running context, hv, show (s.block (globalBlock d e.block)).holdList = held from hheld]
  have request (t : Tag) : v.request t = unmarked t := by
    rw [hv]
    exact s.request_eraseEnded d e t
  let bare : List (Tag × Request) := pairs.map fun q => (q.1, q.2.unmarked)
  have bareTags : bare.map Prod.fst = held := by
    simp [bare, held]
  have out : ∀ q ∈ bare, v.request q.1 = some q.2 := fun q hq => by
    obtain ⟨p, hp, rfl⟩ := List.mem_map.1 hq
    obtain ⟨entry, here, -⟩ := outstanding p hp
    rw [request]
    simp only [unmarked, entry, Option.map_some, if_pos here]
    rfl
  have waits : v.noWriteWaits := fun t ht => by
    have : v.isWrite t = s.isWrite t := by
      rw [hv]
      exact s.isWrite_clearMarks _ t
    rw [this]
    exact idle t (by rw [hv] at ht; exact ht)
  have onDie {l : LineAddr} (here : l.global = g) : l.die = d := by
    rw [← dieOf_global, here, dieOf_globalBlock]
  have block : v.block g = ⟨(s.block g).lock, .healthy, .none, true, []⟩ := by
    rw [hv]
    exact s.block_eraseEnded d e
  have die : v.die d = { x with state := .ready, interleave := 0 } := by
    rw [hv]
    exact State.die_of_dies (s := s) rfl
  have idleDie : Die.atRest { x with state := .ready, interleave := 0 } = true := by
    simp only [Die.atRest]
    rw [noReads, noWork]
    rfl
  have live : (v.die d).isOffline = false := by
    rw [die]
    rfl
  have rest {u : State} (same : u.dies = v.dies) : u.settle = u :=
    State.settle_of_atRest (State.atRest_of_dies others (same.trans (by rw [hv]; rfl)) idleDie)
  have settled {u : State} (hu : held.foldl State.process v = u) (table : u.table = v.tableWithout held)
      (waitList : u.waitList = v.waitList) (same : u.flushes = v.flushes ∧ u.dies = v.dies) :
      exec (.eraseEndPass d) s = .next u ∧ ∀ t, u.request t = if t ∈ held then none else unmarked t := by
    have after : u.afterFree = u := State.afterFree_eq_self
      (State.noWriteWaits_of_tableWithout waits waitList table) (by rw [State.flushesOpen, same.1, hv]; exact flushes)
    rw [ends, hu, after, rest same.2]
    exact ⟨rfl, fun t => by rw [State.request_of_tableWithout table, request]⟩
  refine ⟨fun reads => ?_, fun m l i => ?_,
    fun t w m single write covers unlocked region noOpen full noFilling => ?_, fun writes shut region => ?_⟩
  · have fold := State.foldl_answers (f := State.process) (s := v) (pairs := bare)
      (P := fun u => u.block g = v.block g ∧ u.buffers = v.buffers ∧ u.noWriteWaits)
      (respond := fun q => ⟨q.1, .ok, some (q.2.readData erasedLine)⟩) (by rw [bareTags]; exact nodup) out
      ⟨rfl, rfl, waits⟩ (fun u t r hu => ⟨hu.1, hu.2.1, State.noWriteWaits_of_set_none hu.2.2 rfl rfl⟩) ?_
    · rw [bareTags] at fold
      obtain ⟨next, entries⟩ := settled fold rfl rfl ⟨rfl, rfl⟩
      refine ⟨_, next, ?_, entries⟩
      simp only [bare, List.map_map]
      rw [hv]
      rfl
    · intro u hu q hq entry
      obtain ⟨p, hp, rfl⟩ := List.mem_map.1 hq
      obtain ⟨block', buffers, idle'⟩ := hu
      obtain ⟨-, here, -⟩ := outstanding p hp
      obtain ⟨read, noOpen, noProgram⟩ := reads p hp
      have same (j : BufIx) : u.buffer j = s.buffer j := by
        rw [State.buffer, buffers, hv]
        rfl
      have opened : u.openBuffer p.2.line = none := by
        simpa only [State.openBuffer, same] using noOpen
      have program : u.programmingBuffer p.2.line = none := by
        simpa only [State.programmingBuffer, same] using noProgram
      have isClean : u.block p.2.line.global = ⟨(s.block g).lock, .healthy, .none, true, []⟩ := by
        rw [show p.2.line.global = g from here, block', block]
      have course : u.readCourse p.2.unmarked = .answered erasedLine := by
        rw [State.readCourse_of_later (State.writeWaits_of_noWriteWaits idle' _),
          State.laterReadCourse_past (r := p.2.unmarked) (by simp [State.loadingBuffer, Request.unmarked, opened])
            (by rw [show p.2.unmarked.line.global = p.2.line.global from rfl, isClean]),
          State.newestImage_none (line := p.2.unmarked.line) opened program]
        simp only
        rw [if_pos (by rw [show p.2.unmarked.line.global = p.2.line.global from rfl, isClean])]
      rw [State.process, State.processVia_read (r := p.2.unmarked) entry read, course]
      exact State.answerRead_of_some entry _
  · intro met head lines covers noLine lowest unlocked region stays
    obtain ⟨⟨t, w⟩, more, rfl⟩ : ∃ q more, pairs = q :: more := by
      cases pairs with
      | nil => cases head
      | cons q more => exact ⟨q, more, rfl⟩
    have write : w.payload.isWrite = true := Option.some.inj head
    have hl : w.line = l := lines (t, w) List.mem_cons_self
    have here : l.global = g := by
      rw [← hl]
      exact (outstanding (t, w) List.mem_cons_self).2.1
    have noLine' (j : BufIx) : (v.buffer j).line? ≠ some l := by
      rw [hv]
      exact noLine j
    have admitting : v.Admitting l i m :=
      ⟨by rw [onDie here]; exact live, by rw [here, block], by rw [here, block],
        by rw [here, block]; exact unlocked, by rw [here, State.regionOf_congr (s := s) (by rw [hv]; rfl)]; exact region, fun j _ => noLine' j, waits⟩
    have course : v.course l = .openClean i := by
      rw [State.course_opens (State.writeWaits_of_noWriteWaits waits l)
          (State.openBuffer_eq_none fun j hj => absurd hj (noLine' j)) (show v.lowestFree = some i by rw [State.lowestFree_congr (s := s) (by rw [hv]; rfl)]; exact lowest),
        State.programmingBuffer_eq_none noLine', Option.elim_none, if_pos (by rw [here, block])]
    have merged := meetInOrder_merged (fun _ => m) (.fresh erasedLine) t w more write (w.fits_erased m)
    rw [show met = _ from merged] at stays
    let u : State := { v with
      table := v.table.set t none
      responses := v.responses ++ [⟨t, .ok, none⟩]
      buffers := v.buffers.set i (.filling l v.openCounter ((LineBody.fresh erasedLine).overlay w) none v.coalescePoint)
      openCounter := v.openCounter + 1 }
    have buffer : u.buffer i =
        .filling l v.openCounter ((LineBody.fresh erasedLine).overlay w) none v.coalescePoint := by
      simp [u, State.buffer]
    have regions : u.regionOf l.global = s.regionOf l.global :=
      State.regionOf_congr (s := s) (by simp only [u, hv]; rfl) _
    have unerased : (u.block l.global).erase = .none := by
      rw [show u.block l.global = v.block l.global from rfl, here, block]
    have settings : u.settings = s.settings := by simp only [u, hv]; rfl
    have tracked : u.flushes = s.flushes := by simp only [u, hv]; rfl
    have causes {body : LineBody} (posts : u.postsNow i l body) : s.postsNow i l body := by
      rcases posts with full | window | policy | pending | ⟨f, hf, member⟩
      · exact .inl full
      · exact .inr (.inl (settings ▸ window))
      · exact .inr (.inr (.inl (regions ▸ policy)))
      · exact absurd (unerased.symm.trans pending) nofun
      · exact .inr (.inr (.inr (.inr ⟨f, tracked ▸ hf, member⟩)))
    have opens : State.process v t = u := by
      rw [State.process, State.processVia_write (r := w.unmarked) (out _ List.mem_cons_self) write,
        State.processWrite_admitted (r := w.unmarked) (out _ List.mem_cons_self)
          (admitting.verdict hl (covers _ List.mem_cons_self write)), show w.unmarked.line = l from hl, course]
      refine (State.openWithBase_of_stampMode (r := w.unmarked) (w.fits_erased m)).trans ?_
      rw [show w.unmarked.line = l from hl]
      refine State.postIfCaused_stays (s := u) buffer fun posts => stays (causes ?_)
      exact State.postsNow_mono (fun p => written_meetInOrder) posts
    have filled := admitting.answered (u := { u with openCounter := v.openCounter }) rfl rfl rfl
    have admits : u.Admitting l i m :=
      ⟨filled.live, filled.healthy, filled.unerased, filled.unlocked, filled.region, filled.alone, filled.idle⟩
    have fold := State.foldl_process_meets (s := u) (pairs := more.map fun q => (q.1, q.2.unmarked)) admits buffer
      (by rw [List.map_map]; exact (List.nodup_cons.mp nodup).2) (fun q hq => ?_) (fun q hq => ?_) (fun q hq => ?_)
      (by rw [meetInOrder_unmarked]; exact fun posts => stays (causes posts))
    · rw [meetInOrder_unmarked] at fold
      have first : held.foldl State.process v =
          ((more.map fun q => (q.1, q.2.unmarked)).map Prod.fst).foldl State.process u := by
        rw [← bareTags]
        simp only [bare, List.map_cons, List.foldl_cons]
        rw [opens]
      obtain ⟨next, entries⟩ := settled (first.trans fold) (by simp [u, held, State.tableWithout, Function.comp_def]) rfl ⟨rfl, rfl⟩
      refine ⟨_, next, ?_, entries⟩
      have window : s.settings.coalesceWindow ≠ 0 := fun w => stays (.inr (.inl w))
      have point : u.coalescePoint = some (s.now + s.settings.coalesceWindow) := by
        rw [← settings, show s.now = u.now by simp only [u, hv]; rfl]
        exact State.coalescePoint_of_ne_zero (by rw [settings]; exact window)
      rw [show met = _ from merged, point]
      simp only [u, Vector.set_set, List.append_assoc]
      rw [hv]
      rfl
    · have hne : q.1 ≠ t := fun e => (List.nodup_cons.mp nodup).1 (by
        obtain ⟨p, hp, rfl⟩ := List.mem_map.1 hq
        exact List.mem_map.2 ⟨p, hp, e⟩)
      exact (State.request_of_set_none (s := v) rfl hne).trans (out q (List.mem_cons_of_mem _ hq))
    · obtain ⟨p, hp, rfl⟩ := List.mem_map.1 hq
      exact lines p (List.mem_cons_of_mem _ hp)
    · obtain ⟨p, hp, rfl⟩ := List.mem_map.1 hq
      exact covers p (List.mem_cons_of_mem _ hp)
  · subst single
    obtain ⟨-, here, -⟩ := outstanding (t, w) List.mem_cons_self
    have entry : v.request t = some w.unmarked := out (t, w.unmarked) List.mem_cons_self
    have verdict : v.verdict w.unmarked = .admitted m := by
      refine State.verdict_admitted ?_ ?_ (.inl ?_) ?_ ?_ covers
      · rw [show w.unmarked.line.die = d from onDie here]
        exact live
      · rw [show w.unmarked.line.global = g from here, block]
      · rw [show w.unmarked.line.global = g from here, block]
      · rw [show w.unmarked.line.global = g from here, block]
        exact unlocked
      · rw [show w.unmarked.line.global = g from here, State.regionOf_congr (s := s) (by rw [hv]; rfl)]
        exact region
    have course : v.course w.unmarked.line = .wait :=
      State.course_wait (.inr ⟨(State.openBuffer_congr (s := s) (by rw [hv]; rfl) _).trans noOpen,
        (State.lowestFree_congr (s := s) (by rw [hv]; rfl)).trans full⟩)
    let u : State := (v.stampMode t w.unmarked m).joinWait t
    have waiting : held.foldl State.process v = u := by
      change State.process v t = u
      rw [State.process, State.processVia_write entry write, State.processWrite_admitted entry verdict, course]
      refine State.writeJoinsWait_noFilling fun j => ?_
      rw [show (v.stampMode t w.unmarked m).buffer j = s.buffer j by rw [hv]; rfl]
      exact noFilling j
    have after : u.afterFree = u := State.afterFree_full
      ((State.lowestFree_congr (s := s) (by simp only [u, hv]; rfl)).trans full)
      (by rw [State.flushesOpen, show u.flushes = s.flushes by simp only [u, hv]; rfl]; exact flushes)
    refine ⟨u, by rw [ends, waiting, after, rest (u := u) rfl], ?_, fun t' => ?_⟩
    · simp only [u, hv]
      rfl
    · have read := v.request_setRequest t t' (some (w.unmarked.admitted m))
      refine Eq.trans read ?_
      by_cases ht : t' = t
      · rw [if_pos ht.symm, if_pos ht]
        rfl
      · rw [if_neg (Ne.symm ht), if_neg ht, request]
  · have fold := State.foldl_answers (f := State.process) (s := v) (pairs := bare)
      (P := fun u => u.block g = v.block g ∧ u.dies = v.dies ∧ u.regions = v.regions)
      (respond := fun q => ⟨q.1, .refused .locked, none⟩) (by rw [bareTags]; exact nodup) out
      ⟨rfl, rfl, rfl⟩ (fun u t r hu => hu) ?_
    · rw [bareTags] at fold
      obtain ⟨next, entries⟩ := settled fold rfl rfl ⟨rfl, rfl⟩
      refine ⟨_, next, ?_, entries⟩
      simp only [bare, List.map_map]
      rw [hv]
      rfl
    · intro u hu q hq entry
      obtain ⟨p, hp, rfl⟩ := List.mem_map.1 hq
      obtain ⟨block', dies, regions⟩ := hu
      obtain ⟨-, here, -⟩ := outstanding p hp
      have isClean : u.block p.2.unmarked.line.global = ⟨.shut, .healthy, .none, true, []⟩ := by
        rw [show p.2.unmarked.line.global = g from here, block', block, shut]
      have offline : (u.die p.2.unmarked.line.die).isOffline = false := by
        rw [show p.2.unmarked.line.die = d from onDie here, State.die, dies]
        exact live
      have mode : (u.regionOf p.2.unmarked.line.global).map RegionEntry.mode = some .combine := by
        rw [show p.2.unmarked.line.global = g from here, State.regionOf, regions, hv]
        exact region
      rw [State.process, State.processVia_write (r := p.2.unmarked) entry (writes p hp)]
      exact State.processWrite_answered entry (State.verdict_locked offline (by rw [isClean]) (.inl (by rw [isClean]))
        (by rw [isClean]) (.inl mode))

end Sys2Proof.Machine
end

section
/-! PROGRAM_END PASS: the freed buffer, and its hand-over to a waiting write with the requests of its line
(sections 1.4, 1.5 and 3.3). -/

namespace Sys2Proof.Machine

open Sys2Proof

/-! ## A program ends with nobody waiting -/

/-- With nothing to interleave the operation below is continued at once (R101, R103). -/
theorem State.decideAtOnce_continues {s : State} {d : DieIx} {c : ContextEntry} (halted : (s.die d).state = .halted none)
    (reads : (s.die d).readQueue = []) (work : (s.die d).workQueue = []) (context : (s.die d).context = [c])
    (guard : s.settings.guardInterval ≠ 0) : s.decideAtOnce d = { s with
      dies := s.dies.set d { s.die d with
        state := c.op.runningState (s.now + c.budget) (some (s.now + s.settings.guardInterval)), context := [] }
      out := { s.out with link := s.out.link ++ [(d, .resume)] } } := by
  have none : s.interleaveCandidate d = none := by
    cases hc : s.interleaveCandidate d with
    | none => rfl
    | some i =>
      obtain ⟨_, _, _, -, hwork, -⟩ := State.interleaveCandidate_some hc
      rw [work] at hwork
      cases hwork
  unfold State.decideAtOnce
  rw [halted, reads]
  simp only
  unfold State.decide
  rw [none]
  simp only
  rw [State.sendContinue_of_context (rest := []) (c := c) context, State.guardPoint_of_ne_zero guard]

theorem ArrayOp.atRest_runningState (op : ArrayOp) (due guard : Nat) (x : Die) :
    ({ x with state := op.runningState due (some guard) } : Die).atRest = true := by
  cases op <;> rfl

theorem exec_programEndPass {d : DieIx} {p : ProgramOp} {s : State} (running : (s.die d).runningProgram = some p) :
    exec (.programEndPass d) s =
      .next (((((s.quiet.modifyDie d Die.idle).freeBuffer p.buffer).afterFree).decideAtOnce d).settle) := by
  simp only [exec, execProgramEndPass, running]
  rfl

/-- The first half of O30: the buffer is FREE and counted, and the die goes on. -/
theorem programPass_noneWaiting {d : DieIx} {p : ProgramOp} {s : State} (running : (s.die d).runningProgram = some p)
    (others : s.othersAtRest d) (idle : s.noWriteWaits) (reads : (s.die d).readQueue = [])
    (work : (s.die d).workQueue = [])
    (resumes : (s.die d).context = [] ∨ ∃ c, (s.die d).context = [c] ∧ s.settings.guardInterval ≠ 0) :
    ∃ u, exec (.programEndPass d) s = .next u ∧
      u = { s with
        buffers := u.buffers, flushes := u.flushes, completions := u.completions, dies := u.dies, out := u.out } ∧
      (∀ j, u.buffer j = if j = p.buffer then .free else (s.buffer j).unlink p.buffer) ∧
      u.flushes = (s.flushes.map fun f => { f with members := f.members.filter (· != p.buffer) }).filter
        (fun f => f.members ≠ []) ∧
      u.completions = s.completions ++
        (s.flushes.filter fun f => f.members.all (· == p.buffer)).map
          (fun f => ⟨f.ticket, .flush, .done, f.scope, none⟩) ∧
      (match (s.die d).context with
        | [] => u.dies = s.dies.set d { s.die d with state := .ready } ∧ u.out = Outputs.none
        | c :: _ =>
          u.dies = s.dies.set d
            { s.die d with
              state := c.op.runningState (s.now + c.budget) (some (s.now + s.settings.guardInterval)), context := [] } ∧
          u.out = ⟨[(d, .resume)], none, []⟩) := by
  rw [exec_programEndPass running, State.afterFree_freeBuffer (s := s.quiet.modifyDie d Die.idle) idle]
  obtain ⟨v, hv⟩ : ∃ v, v = ({ s.quiet.modifyDie d Die.idle with
      buffers := ((s.quiet.modifyDie d Die.idle).freeBuffer p.buffer).buffers
      flushes := (s.flushes.map fun f => { f with members := f.members.filter (· != p.buffer) }).filter
        fun f => f.members ≠ []
      completions := s.completions ++ (s.flushes.filter fun f => f.members.all (· == p.buffer)).map
        fun f => ⟨f.ticket, .flush, .done, f.scope, none⟩ } : State) := ⟨_, rfl⟩
  have dies : v.dies = s.dies.set d (s.die d).idle := by rw [hv]; rfl
  have die : v.die d = (s.die d).idle := State.die_of_dies dies
  have buffer (j : BufIx) : v.buffer j = if j = p.buffer then .free else (s.buffer j).unlink p.buffer := by
    rw [hv]
    exact State.buffer_freeBuffer _ p.buffer j
  rw [show (State.settle _) = (v.decideAtOnce d).settle by rw [hv]; rfl]
  rcases resumes with context | ⟨c, context, guard⟩
  · rw [Die.idle_ready context] at dies die
    have rest : (v.decideAtOnce d).settle = v := by
      rw [State.decideAtOnce_ready (by rw [die])]
      refine State.settle_of_atRest (State.atRest_of_dies others dies ?_)
      simp only [Die.atRest]
      rw [reads, work]
      rfl
    rw [rest, context]
    exact ⟨v, rfl, by rw [hv]; rfl, buffer, by rw [hv], by rw [hv], dies, by rw [hv]; rfl⟩
  · rw [Die.idle_halted (by rw [context]; nofun)] at dies die
    have continues := State.decideAtOnce_continues (s := v) (by rw [die]) (by rw [die]; exact reads)
      (by rw [die]; exact work) (by rw [die]; exact context) (by rw [hv]; exact guard)
    rw [die, dies, Vector.set_set] at continues
    have rest : (v.decideAtOnce d).settle = v.decideAtOnce d := by
      refine State.settle_of_atRest (State.atRest_of_dies others (by rw [continues]) ?_)
      exact ArrayOp.atRest_runningState _ _ _ _
    rw [rest, context, continues]
    refine ⟨_, rfl, ?_, buffer, ?_, ?_, ?_, ?_⟩
    · rw [hv]; rfl
    · rw [hv]
    · rw [hv]
    · rw [hv]; rfl
    · rw [hv]; rfl

end Sys2Proof.Machine
end

section
/-! The freed buffer goes to the first waiting write, and the requests of its line follow it (R25, R56). -/

namespace Sys2Proof.Machine

open Sys2Proof

/-! ## The freed buffer -/

/-- The state in which a program has passed on a die that becomes READY, no flush running. -/
def State.passed (s : State) (d : DieIx) (i : BufIx) : State :=
  { s with
    dies := s.dies.set d { s.die d with state := .ready }
    buffers := (s.freeBuffer i).buffers
    out := Outputs.none }

theorem exec_programEndPass_ready {d : DieIx} {p : ProgramOp} {s : State} (running : (s.die d).runningProgram = some p)
    (context : (s.die d).context = []) (flushes : s.flushes = []) : exec (.programEndPass d) s =
      .next ((((s.passed d p.buffer).afterFree).decideAtOnce d).settle) := by
  have freed : (s.quiet.modifyDie d Die.idle).freeBuffer p.buffer = s.passed d p.buffer := by
    rw [s.quiet_idle context]
    unfold State.freeBuffer State.passed
    simp only [flushes, List.map_nil]
    rfl
  rw [exec_programEndPass running, freed]

theorem State.buffer_passed (s : State) (d : DieIx) (i j : BufIx) :
    (s.passed d i).buffer j = if j = i then .free else (s.buffer j).unlink i := s.buffer_freeBuffer i j

@[simp] theorem Buffer.isFree_unlink (b : Buffer) (i : BufIx) : (b.unlink i).isFree = b.isFree := by
  cases b <;> rfl

/-- The one FREE buffer is the lowest (R2). -/
theorem State.lowestFree_of_only {s : State} {i : BufIx} (free : s.buffer i = .free)
    (others : ∀ j, j ≠ i → (s.buffer j).isFree = false) : s.lowestFree = some i := by
  cases h : s.lowestFree with
  | none =>
    have := List.find?_eq_none.1 h i (State.mem_bufferIndices i)
    rw [free] at this
    exact absurd rfl this
  | some j =>
    by_contra hne
    have := others j fun e => hne (by rw [e])
    rw [State.lowestFree_some h] at this
    cases this

theorem State.lowestFree_none {s : State} (h : ∀ j, (s.buffer j).isFree = false) : s.lowestFree = none :=
  List.find?_eq_none.2 fun j _ => by simp [h j]

/-- One waiting write takes the freed buffer, and with no other buffer FREE, or no request waiting, that is all
(R25). -/
theorem State.afterFree_handsTo {s u : State} {t : Tag} {rest : List Tag} {i : BufIx} (flushes : s.flushesOpen)
    (waits : s.waitList = t :: rest) (write : s.isWrite t = true) (lowest : s.lowestFree = some i)
    (hu : s.handTo t = u) (last : u.lowestFree = none ∨ rest = []) : s.afterFree = u := by
  have first : s.firstWaitingWrite = some t := by
    rw [State.firstWaitingWrite, waits, List.find?_cons, write]
  have steps : s.afterFree = State.handOverLoop rest.length (s.handTo t) := by
    unfold State.afterFree
    rw [State.completeFlushes_of_open flushes]
    simp only
    rw [waits, List.length_cons]
    rw [State.handOverLoop, lowest, first]
  rw [steps, hu]
  rcases last with full | rfl
  · exact State.handOverLoop_full full _
  · rfl

/-- The first waiting write is taken up again and its line's other requests are pulled (R25). -/
theorem State.handTo_opens {s met : State} {t : Tag} {r : Request} {i : BufIx} (hr : s.request t = some r)
    (hmet : (s.leaveWait t).processWrite State.bufferCourse t = met) (opened : met.openBuffer r.line = some i) :
    s.handTo t = met.pullLine r.line := by
  unfold State.handTo
  rw [hr]
  simp only
  rw [hmet, if_pos (by rw [opened]; rfl)]

/-- A first waiting write that opens nothing, with no request of its line behind it (R25, R26). -/
theorem State.handTo_stopped {s met : State} {t : Tag} {r : Request} (hr : s.request t = some r)
    (hmet : (s.leaveWait t).processWrite State.bufferCourse t = met) (unopened : met.openBuffer r.line = none)
    (alone : ∀ t' ∈ met.waitList, met.isForLine r.line t' = false) : s.handTo t = met := by
  unfold State.handTo
  rw [hr]
  simp only
  rw [hmet, if_neg (by rw [unopened]; nofun)]
  exact State.releaseReads_nil alone

/-! ## The requests of the line join a held list -/

/-- A request as admission leaves it: a write carries the mode. -/
def Request.stampedIfWrite (m : AdmittedMode) (r : Request) : Request := if r.payload.isWrite then r.admitted m else r

theorem Request.stampedIfWrite_write {m : AdmittedMode} {r : Request} (h : r.payload.isWrite = true) :
    r.stampedIfWrite m = r.admitted m := if_pos h

theorem Request.stampedIfWrite_read {m : AdmittedMode} {r : Request} (h : r.payload.isWrite = false) :
    r.stampedIfWrite m = r := if_neg (by simp [h])

theorem Request.stampedIfWrite_idem (m : AdmittedMode) (r : Request) :
    (r.stampedIfWrite m).stampedIfWrite m = r.stampedIfWrite m := by
  cases h : r.payload.isWrite with
  | true => rw [Request.stampedIfWrite_write h]; exact Request.stampedIfWrite_write h
  | false => rw [Request.stampedIfWrite_read h, Request.stampedIfWrite_read h]

/-- What the lists of a line and of a block look at in a request. -/
def Request.core (r : Request) : Payload × LineAddr × Nat := (r.payload, r.line, r.order)

theorem Request.core_stampedIfWrite (m : AdmittedMode) (r : Request) : (r.stampedIfWrite m).core = r.core := by
  cases h : r.payload.isWrite with
  | true => rw [Request.stampedIfWrite_write h]; rfl
  | false => rw [Request.stampedIfWrite_read h]

theorem State.isForLine_congr {s u : State} {t : Tag}
    (h : (u.request t).map Request.core = (s.request t).map Request.core) (l : LineAddr) :
    u.isForLine l t = s.isForLine l t := by
  unfold State.isForLine
  cases hu : u.request t <;> cases hs : s.request t <;> rw [hu, hs] at h <;> simp_all [Request.core]

theorem State.writeHeldAhead_congr {s u : State} (blocks : u.blocks = s.blocks)
    (h : ∀ t, (u.request t).map Request.core = (s.request t).map Request.core) (r : Request) :
    u.writeHeldAhead r = s.writeHeldAhead r := by
  unfold State.writeHeldAhead
  rw [show u.block r.line.global = s.block r.line.global by rw [State.block, blocks]; rfl]
  refine any_congr_of_mem fun t _ => ?_
  have core := h t
  cases hu : u.request t <;> cases hs : s.request t <;> rw [hu, hs] at core <;> simp_all [Request.core]

/-- A request of the line that joins the line's held list when it is taken up again: a write that admission admits, or
a read with no write of the line held ahead of it (R25, R56). -/
def State.Joins (s : State) (l : LineAddr) (r : Request) : Prop :=
  r.line = l ∧
    (r.payload.isWrite = true → r.coversNothing = false ∧ ((s.block l.global).erase = .none ∨ r.mark = true)) ∧
    (r.payload.isWrite = false → s.writeHeldAhead r = false)

theorem State.Joins.stampedIfWrite {s : State} {l : LineAddr} {r : Request} (h : s.Joins l r) (m : AdmittedMode) :
    s.Joins l (r.stampedIfWrite m) := by
  cases hw : r.payload.isWrite with
  | true =>
    rw [Request.stampedIfWrite_write hw]
    exact ⟨h.1, fun _ => h.2.1 hw, fun read => absurd (hw.symm.trans read) nofun⟩
  | false =>
    rw [Request.stampedIfWrite_read hw]
    exact h

/-- What a write of line `l` finds while buffer `i` loads that line and no waiting request is of it. -/
structure State.LoadsFor (s : State) (l : LineAddr) (i : BufIx) (n : Nat) (held : List Tag) (m : AdmittedMode) : Prop where
  buffer : s.buffer i = .loading l n held
  alone : ∀ j, j ≠ i → (s.buffer j).line? ≠ some l
  live : (s.die l.die).isOffline = false
  healthy : (s.block l.global).health = .healthy
  unlocked : (s.block l.global).lock = .opened
  region : (s.regionOf l.global).map RegionEntry.mode =
    some (match m with
      | .combine => .combine
      | .appendOnce => .appendOnce)
  idle : ∀ t ∈ s.waitList, s.isForLine l t = false

theorem State.LoadsFor.openBuffer {s : State} {l : LineAddr} {i : BufIx} {n : Nat} {held : List Tag} {m : AdmittedMode}
    (h : s.LoadsFor l i n held m) : s.openBuffer l = some i :=
  State.openBuffer_of_alone (by rw [h.buffer]; rfl) (by rw [h.buffer]; rfl) h.alone

/-- One request of the line joins the held list (R25, R56). -/
theorem State.LoadsFor.joins {s : State} {l : LineAddr} {i : BufIx} {n : Nat} {held : List Tag} {m : AdmittedMode}
    (h : s.LoadsFor l i n held m) {t : Tag} {r : Request} (hr : s.request t = some r) (joins : s.Joins l r) :
    s.processVia State.pulledReadCourse t = { s with
      table := s.table.set t (some (r.stampedIfWrite m))
      buffers := s.buffers.set i (.loading l n (held ++ [t])) } := by
  obtain ⟨rfl, writes, reads⟩ := joins
  cases hw : r.payload.isWrite with
  | true =>
    obtain ⟨covers, unheld⟩ := writes hw
    have waits : s.writeWaits r.line = false := List.any_eq_false.2 fun x hx => by simp [h.idle x hx]
    have course : s.course r.line = .joinHeld i := by
      rw [State.course_of_buffer waits, State.bufferCourse, h.openBuffer]
      exact if_pos (by rw [h.buffer]; rfl)
    rw [State.processVia_write hr hw, State.processWrite_admitted hr
      (State.verdict_admitted h.live h.healthy unheld h.unlocked h.region covers), course,
      Request.stampedIfWrite_write hw]
    change (s.stampMode t r m).joinHeld i t = _
    unfold State.joinHeld
    rw [show (s.stampMode t r m).buffer i = .loading r.line n held from h.buffer]
    rfl
  | false =>
    rw [State.processVia_read hr hw, State.pulledReadCourse_loading (reads hw) h.openBuffer (by rw [h.buffer]; rfl),
      Request.stampedIfWrite_read hw, State.table_set_request hr]
    change s.joinHeld i t = _
    unfold State.joinHeld
    rw [h.buffer]
    rfl

/-- The requests of the line join the held list in order (R25, R56). -/
theorem State.LoadsFor.foldl_joins {s : State} {l : LineAddr} {i : BufIx} {n : Nat} {held ts : List Tag}
    {m : AdmittedMode} (h : s.LoadsFor l i n held m) (joins : ∀ t ∈ ts, ∃ r, s.request t = some r ∧ s.Joins l r) :
    ∃ table, ts.foldl (State.processVia State.pulledReadCourse) s = { s with
        table := table, buffers := s.buffers.set i (.loading l n (held ++ ts)) } ∧
      ∀ x : Tag, table[x] = if x ∈ ts then (s.request x).map (Request.stampedIfWrite m) else s.request x := by
  induction ts generalizing s held with
  | nil =>
    refine ⟨s.table, ?_, fun x => by simp [State.request]⟩
    have self : s.buffers.set i (.loading l n held) = s.buffers := by
      rw [← h.buffer]
      exact Vector.set_getElem_self _
    simp [self]
  | cons t ts ih =>
    obtain ⟨r, hr, joinsNow⟩ := joins t List.mem_cons_self
    obtain ⟨u, hu⟩ : ∃ u, u = ({ s with
      table := s.table.set t (some (r.stampedIfWrite m))
      buffers := s.buffers.set i (.loading l n (held ++ [t])) } : State) := ⟨_, rfl⟩
    have request (x : Tag) : u.request x = if t = x then some (r.stampedIfWrite m) else s.request x := by
      rw [hu]
      exact s.request_setRequest t x _
    have core (x : Tag) : (u.request x).map Request.core = (s.request x).map Request.core := by
      rw [request]
      by_cases hx : t = x
      · rw [if_pos hx, ← hx, hr, Option.map_some, Option.map_some, Request.core_stampedIfWrite]
      · rw [if_neg hx]
    have loads : u.LoadsFor l i n (held ++ [t]) m := by
      refine ⟨?_, fun j hj => ?_, ?_, ?_, ?_, ?_, fun x hx => ?_⟩
      · rw [hu]
        exact (s.buffer_setBuffer i i _).trans (if_pos rfl)
      · have kept : u.buffer j = s.buffer j := by
          rw [hu]
          exact (s.buffer_setBuffer i j _).trans (if_neg (Ne.symm hj))
        rw [kept]
        exact h.alone j hj
      · rw [hu]; exact h.live
      · rw [hu]; exact h.healthy
      · rw [hu]; exact h.unlocked
      · rw [State.regionOf_congr (s := s) (by rw [hu])]; exact h.region
      · rw [State.isForLine_congr (core x)]
        exact h.idle x (by rw [hu] at hx; exact hx)
    have still {r' : Request} (k : s.Joins l r') : u.Joins l r' := by
      refine ⟨k.1, fun w => ⟨(k.2.1 w).1, ?_⟩, fun w => ?_⟩
      · rw [hu]
        exact (k.2.1 w).2
      · rw [State.writeHeldAhead_congr (by rw [hu]) core]
        exact k.2.2 w
    obtain ⟨table, fold, entries⟩ := ih loads fun x hx => by
      rw [request]
      by_cases e : t = x
      · exact ⟨_, if_pos e, still (joinsNow.stampedIfWrite m)⟩
      · obtain ⟨r', hr', k⟩ := joins x (List.mem_cons_of_mem _ hx)
        exact ⟨r', by rw [if_neg e, hr'], still k⟩
    refine ⟨table, ?_, fun x => ?_⟩
    · rw [List.foldl_cons, h.joins hr joinsNow, ← hu, fold, hu]
      simp only [Vector.set_set, List.append_assoc, List.singleton_append]
    · rw [entries, request]
      by_cases e : t = x
      · rw [if_pos e, if_pos (show x ∈ t :: ts by rw [e]; exact List.mem_cons_self), ← e, hr, Option.map_some,
          Option.map_some, Request.stampedIfWrite_idem, ite_self]
      · have mem : x ∈ t :: ts ↔ x ∈ ts := by simp [Ne.symm e]
        rw [if_neg e]
        simp only [mem]

end Sys2Proof.Machine
end

section
/-! PROGRAM_END PASS with a write waiting: the hand-over of the freed buffer, clause by clause (section 1.5). -/

namespace Sys2Proof.Machine

open Sys2Proof

/-- A program passes on a die with nothing else to do while a write heads the buffer wait list and no buffer is FREE:
the write passes the first checks that admission makes again, and no other buffer holds its line. -/
structure State.HandsOver (s : State) (d : DieIx) (p : ProgramOp) (t : Tag) (rest : List Tag) (w : Request) : Prop where
  running : (s.die d).runningProgram = some p
  others : s.othersAtRest d
  context : (s.die d).context = []
  reads : (s.die d).readQueue = []
  work : (s.die d).workQueue = []
  flushes : s.flushes = []
  full : ∀ j, (s.buffer j).isFree = false
  waits : s.waitList = t :: rest
  fresh : t ∉ rest
  request : s.request t = some w
  write : w.payload.isWrite = true
  healthy : (s.block w.line.global).health = .healthy
  unheld : (s.block w.line.global).erase = .none ∨ w.mark = true
  online : (s.die w.line.die).isOffline = false
  alone : ∀ j, j ≠ p.buffer → (s.buffer j).line? ≠ some w.line

/-- The state in which the buffer is FREE and the first waiting write has left the wait list. -/
def State.handed (s : State) (d : DieIx) (i : BufIx) (rest : List Tag) : State := { s.passed d i with waitList := rest }

theorem State.buffer_handed (s : State) (d : DieIx) (i j : BufIx) (rest : List Tag) :
    (s.handed d i rest).buffer j = if j = i then .free else (s.buffer j).unlink i := s.buffer_passed d i j

/-- A stamped write opens a LOADING buffer and its base load joins the read queue of its die (R6). -/
theorem State.openLoading_of_stampMode {s : State} {d : DieIx} (t : Tag) {r : Request} (m : AdmittedMode) (i : BufIx)
    (hd : r.line.die = d) :
    (s.stampMode t r m).openLoading i t = { s with
      table := s.table.set t (some (r.admitted m))
      buffers := s.buffers.set i (.loading r.line s.openCounter [t])
      openCounter := s.openCounter + 1
      dies := s.dies.set d ((s.die d).joinReads (.baseLoad r.line.block r.line.line i)) } := by
  subst hd
  unfold State.openLoading
  rw [s.request_stampMode]
  rfl

theorem State.isForLine_iff {s : State} {l : LineAddr} {t : Tag} :
    s.isForLine l t = true ↔ ∃ r, s.request t = some r ∧ r.line = l := by
  unfold State.isForLine
  cases s.request t <;> simp

theorem State.regionOf_handed (s : State) (d : DieIx) (i : BufIx) (rest : List Tag) (g : GlobalBlock) :
    (s.handed d i rest).regionOf g = s.regionOf g := State.regionOf_congr (u := s.handed d i rest) rfl g

section
variable {s : State} {d : DieIx} {p : ProgramOp} {t : Tag} {rest : List Tag} {w : Request}

theorem State.HandsOver.leaveWait (h : s.HandsOver d p t rest w) :
    (s.passed d p.buffer).leaveWait t = s.handed d p.buffer rest := by
  have left : (t :: rest).filter (· != t) = rest := by
    rw [List.filter_cons_of_neg (by simp)]
    refine List.filter_eq_self.2 fun t' ht' => ?_
    have : t' ≠ t := fun e => h.fresh (e ▸ ht')
    simpa using this
  unfold State.leaveWait State.handed
  rw [show (s.passed d p.buffer).waitList = t :: rest from h.waits, left]

theorem State.HandsOver.line_handed (h : s.HandsOver d p t rest w) (j : BufIx) :
    ((s.handed d p.buffer rest).buffer j).line? ≠ some w.line := by
  rw [s.buffer_handed]
  by_cases hj : j = p.buffer
  · rw [if_pos hj]
    nofun
  · rw [if_neg hj, Buffer.line?_unlink]
    exact h.alone j hj

theorem State.HandsOver.isFree_handed (h : s.HandsOver d p t rest w) {j : BufIx} (hj : j ≠ p.buffer) :
    ((s.handed d p.buffer rest).buffer j).isFree = false := by
  rw [s.buffer_handed, if_neg hj, Buffer.isFree_unlink]
  exact h.full j

theorem State.HandsOver.lowestFree (h : s.HandsOver d p t rest w) :
    (s.handed d p.buffer rest).lowestFree = some p.buffer :=
  State.lowestFree_of_only ((s.buffer_handed _ _ _ _).trans (if_pos rfl)) fun _ => h.isFree_handed

theorem State.HandsOver.online_handed (h : s.HandsOver d p t rest w) :
    ((s.handed d p.buffer rest).die w.line.die).isOffline = false := by
  have read := s.die_setDie d w.line.die { s.die d with state := .ready }
  rw [show (s.handed d p.buffer rest).die w.line.die = _ from read]
  split
  · rfl
  · exact h.online

/-- The course of the write: it opens the freed buffer on the erased line or with a base load (R4 to R6). -/
theorem State.HandsOver.bufferCourse (h : s.HandsOver d p t rest w) :
    (s.handed d p.buffer rest).bufferCourse w.line =
      if (s.block w.line.global).clean then .openClean p.buffer else .openLoading p.buffer := by
  rw [State.bufferCourse, State.openBuffer_eq_none fun j hj => absurd hj (h.line_handed j), h.lowestFree,
    State.programmingBuffer_eq_none h.line_handed]
  rfl

theorem State.HandsOver.verdict (h : s.HandsOver d p t rest w) {m : AdmittedMode} (covers : w.coversNothing = false)
    (unlocked : (s.block w.line.global).lock = .opened)
    (region : (s.regionOf w.line.global).map RegionEntry.mode =
      some (match m with
        | .combine => .combine
        | .appendOnce => .appendOnce)) : (s.handed d p.buffer rest).verdict w = .admitted m :=
  State.verdict_admitted h.online_handed h.healthy h.unheld unlocked
    (by rw [State.regionOf_handed]; exact region) covers

/-- The hand-over of the buffer is the pool's whole part of the happening. -/
theorem State.HandsOver.exec (h : s.HandsOver d p t rest w) {u : State} (hu : (s.passed d p.buffer).handTo t = u)
    (last : u.lowestFree = none ∨ rest = []) (ready : (u.die d).state = .ready) :
    exec (.programEndPass d) s = .next u.settle := by
  have flushes : (s.passed d p.buffer).flushesOpen := by
    intro f hf
    rw [show (s.passed d p.buffer).flushes = [] from h.flushes] at hf
    cases hf
  have hands : (s.passed d p.buffer).afterFree = u :=
    State.afterFree_handsTo flushes h.waits ((State.isWrite_of_some (s := s.passed d p.buffer) h.request).trans h.write)
      ((State.lowestFree_congr (s := s.handed d p.buffer rest) rfl).trans h.lowestFree) hu last
  rw [exec_programEndPass_ready h.running h.context h.flushes, hands, State.decideAtOnce_ready ready]

/-- Where the write's line stands open afterwards the other requests of the line follow (R25). -/
theorem State.HandsOver.handTo_opens (h : s.HandsOver d p t rest w) {met : State}
    (hmet : (s.handed d p.buffer rest).processWrite State.bufferCourse t = met)
    (opened : met.openBuffer w.line = some p.buffer) : (s.passed d p.buffer).handTo t = met.pullLine w.line :=
  State.handTo_opens (s := s.passed d p.buffer) h.request (by rw [h.leaveWait, hmet]) opened

/-- A write stopped by its re-check is answered and takes no buffer (R50). -/
theorem State.HandsOver.stopped (h : s.HandsOver d p t rest w) {m : AdmittedMode}
    (region : (s.regionOf w.line.global).map RegionEntry.mode =
      some (match m with
        | .combine => .combine
        | .appendOnce => .appendOnce))
    (shut : (s.block w.line.global).lock = .shut) (none : rest = []) :
    ∃ u, Machine.exec (.programEndPass d) s = .next u ∧
      u = { s with
        table := s.table.set t Option.none, responses := s.responses ++ [⟨t, .refused .locked, Option.none⟩]
        waitList := [], buffers := u.buffers, dies := s.dies.set d { s.die d with state := .ready }
        out := Outputs.none } ∧
      ∀ j, u.buffer j = if j = p.buffer then .free else (s.buffer j).unlink p.buffer := by
  subst none
  let u : State := { s.handed d p.buffer [] with
    table := s.table.set t Option.none, responses := s.responses ++ [⟨t, .refused .locked, Option.none⟩] }
  have mode : ((s.handed d p.buffer []).regionOf w.line.global).map RegionEntry.mode = some .combine ∨
      ((s.handed d p.buffer []).regionOf w.line.global).map RegionEntry.mode = some .appendOnce := by
    rw [State.regionOf_handed, region]
    cases m
    · exact .inl rfl
    · exact .inr rfl
  have verdict : (s.handed d p.buffer []).verdict w = .answered (.refused .locked) :=
    State.verdict_locked h.online_handed h.healthy h.unheld shut mode
  have hmet : (s.handed d p.buffer []).processWrite State.bufferCourse t = u :=
    State.processWrite_answered h.request verdict
  have unopened : u.openBuffer w.line = Option.none :=
    (State.openBuffer_congr (s := s.handed d p.buffer []) rfl _).trans
      (State.openBuffer_eq_none fun j hj => absurd hj (h.line_handed j))
  have handed : (s.passed d p.buffer).handTo t = u :=
    State.handTo_stopped (s := s.passed d p.buffer) h.request (by rw [h.leaveWait, hmet]) unopened nofun
  have dies : u.dies = s.dies.set d { s.die d with state := .ready } := rfl
  have idle : Die.atRest { s.die d with state := .ready } = true := by
    simp only [Die.atRest]
    rw [h.reads, h.work]
    rfl
  refine ⟨u, ?_, rfl, fun j => s.buffer_handed d p.buffer j []⟩
  rw [h.exec handed (.inr rfl) (by rw [State.die_of_dies dies]),
    State.settle_of_atRest (State.atRest_of_dies h.others dies idle)]

/-- On a line with no base at hand the write opens the buffer as LOADING, and every other waiting request of the line
joins the held list (R6, R25, R56). -/
theorem State.HandsOver.opensLoading (h : s.HandsOver d p t rest w) {m : AdmittedMode} (covers : w.coversNothing = false)
    (region : (s.regionOf w.line.global).map RegionEntry.mode =
      some (match m with
        | .combine => .combine
        | .appendOnce => .appendOnce))
    (unlocked : (s.block w.line.global).lock = .opened) (dirty : (s.block w.line.global).clean = false)
    (here : w.line.die = d)
    (writes : ∀ t' ∈ rest, ∀ r', s.request t' = some r' → r'.line = w.line → r'.payload.isWrite = true →
      r'.coversNothing = false ∧ ((s.block w.line.global).erase = .none ∨ r'.mark = true))
    (reads : ∀ t' ∈ rest, ∀ r', s.request t' = some r' → r'.line = w.line → r'.payload.isWrite = false →
      s.writeHeldAhead r' = false) :
    ∃ u, Machine.exec (.programEndPass d) s = .next u ∧
      u = { s with
        table := u.table, buffers := u.buffers, openCounter := s.openCounter + 1
        waitList := rest.filter fun t' => !s.isForLine w.line t'
        dies := s.dies.set d
          { s.die d with state := .reading (.baseLoad w.line.block w.line.line p.buffer) (s.now + 8) }
        out := ⟨[(d, .readLine w.line.block w.line.line)], none, []⟩ } ∧
      (∀ j, u.buffer j =
        if j = p.buffer then .loading w.line s.openCounter (t :: rest.filter (s.isForLine w.line))
        else (s.buffer j).unlink p.buffer) ∧
      ∀ t', u.request t' =
        if t' ∈ t :: rest ∧ s.isForLine w.line t' = true ∧ s.isWrite t' = true then
          (s.request t').map fun r' => { r' with mode := some m }
        else s.request t' := by
  let l := w.line
  let i := p.buffer
  let load : ReadEntry := .baseLoad l.block l.line i
  let pulled := rest.filter (s.isForLine l)
  obtain ⟨met, hm⟩ : ∃ met, met = ({ s.handed d i rest with
    table := s.table.set t (some (w.admitted m))
    buffers := (s.handed d i rest).buffers.set i (.loading l s.openCounter [t])
    openCounter := s.openCounter + 1
    dies := s.dies.set d { s.die d with state := .ready, readQueue := [load] } } : State) := ⟨_, rfl⟩
  have course : (s.handed d i rest).bufferCourse w.line = .openLoading i := by
    rw [h.bufferCourse, if_neg (by simp [dirty])]
  have hmet : (s.handed d i rest).processWrite State.bufferCourse t = met := by
    rw [State.processWrite_admitted (s := s.handed d i rest) h.request (h.verdict covers unlocked region), course]
    refine (State.openLoading_of_stampMode (s := s.handed d i rest) t m i here).trans ?_
    have die : (s.handed d i rest).die d = { s.die d with state := .ready } := State.die_of_dies (s := s) rfl
    rw [die, hm]
    simp only [State.handed, State.passed, Vector.set_set, Die.joinReads, h.reads, List.nil_append]
    rfl
  have request (x : Tag) : met.request x = if t = x then some (w.admitted m) else s.request x := by
    rw [hm]
    exact s.request_setRequest t x _
  have core (x : Tag) : (met.request x).map Request.core = (s.request x).map Request.core := by
    rw [request]
    by_cases hx : t = x
    · rw [if_pos hx, ← hx, h.request]
      rfl
    · rw [if_neg hx]
  have isForLine (x : Tag) : met.isForLine l x = s.isForLine l x := State.isForLine_congr (core x) l
  have buffer (j : BufIx) : met.buffer j =
      if i = j then .loading l s.openCounter [t] else (s.handed d i rest).buffer j := by
    rw [hm]
    exact (s.handed d i rest).buffer_setBuffer i j _
  obtain ⟨v, hv⟩ : ∃ v, v = ({ met with waitList := rest.filter fun x => !s.isForLine l x } : State) := ⟨_, rfl⟩
  have requestV (x : Tag) : v.request x = met.request x := by rw [hv]; rfl
  have bufferV (j : BufIx) : v.buffer j = met.buffer j := by rw [hv]; rfl
  have blockV (g : GlobalBlock) : v.block g = s.block g := by rw [hv, hm]; rfl
  have diesV : v.dies = s.dies.set d { s.die d with state := .ready, readQueue := [load] } := by rw [hv, hm]
  have loads : v.LoadsFor l i s.openCounter [t] m := by
    refine ⟨(bufferV i).trans ((buffer i).trans (if_pos rfl)), fun j hj => ?_, ?_, ?_, ?_, ?_, fun x hx => ?_⟩
    · rw [bufferV, buffer, if_neg (Ne.symm hj)]
      exact h.line_handed j
    · rw [show l.die = d from here, State.die_of_dies diesV]
      rfl
    · rw [blockV]; exact h.healthy
    · rw [blockV]; exact unlocked
    · rw [State.regionOf_congr (s := s) (by rw [hv, hm]; rfl)]
      exact region
    · rw [State.isForLine_congr ((congrArg (Option.map Request.core) (requestV x)).trans (core x))]
      rw [hv] at hx
      simpa using (List.mem_filter.1 hx).2
  have joins : ∀ x ∈ pulled, ∃ r, v.request x = some r ∧ v.Joins l r := fun x hx => by
    obtain ⟨mem, line⟩ := List.mem_filter.1 hx
    obtain ⟨r, hr, hl⟩ := State.isForLine_iff.1 line
    have hne : t ≠ x := fun e => h.fresh (e ▸ mem)
    refine ⟨r, by rw [requestV, request, if_neg hne, hr], hl, fun write => ?_, fun read => ?_⟩
    · rw [blockV]
      exact writes x mem r hr hl write
    · rw [State.writeHeldAhead_congr (s := s) (by rw [hv, hm]; rfl)
        (fun y => (congrArg (Option.map Request.core) (requestV y)).trans (core y))]
      exact reads x mem r hr hl read
  obtain ⟨table, fold, entries⟩ := loads.foldl_joins joins
  have pull : met.pullLine l = pulled.foldl (State.processVia State.pulledReadCourse) v := by
    unfold State.pullLine
    rw [show met.isForLine l = s.isForLine l from funext isForLine, show met.waitList = rest by rw [hm]; rfl, hv]
  obtain ⟨u, hu⟩ : ∃ u, u = ({ v with
    table := table, buffers := v.buffers.set i (.loading l s.openCounter ([t] ++ pulled)) } : State) := ⟨_, rfl⟩
  have bufferU (j : BufIx) : u.buffer j =
      if j = i then .loading l s.openCounter (t :: pulled) else (s.buffer j).unlink i := by
    have read : u.buffer j = if i = j then .loading l s.openCounter (t :: pulled) else v.buffer j := by
      rw [hu]
      exact v.buffer_setBuffer i j _
    rw [read]
    by_cases hj : j = i
    · rw [if_pos hj.symm, if_pos hj]
    · rw [if_neg (Ne.symm hj), if_neg hj, bufferV, buffer, if_neg (Ne.symm hj), s.buffer_handed, if_neg hj]
  have handed : (s.passed d i).handTo t = u := by
    have opened : met.openBuffer w.line = some i := (State.openBuffer_congr (by rw [hv]) _).trans loads.openBuffer
    rw [h.handTo_opens hmet opened, show w.line = l from rfl, pull, fold, hu]
  have diesU : u.dies = s.dies.set d { s.die d with state := .ready, readQueue := [load] } := by
    rw [hu]
    exact diesV
  have full : u.lowestFree = none := State.lowestFree_none fun j => by
    rw [bufferU]
    by_cases hj : j = i
    · rw [if_pos hj]; rfl
    · rw [if_neg hj, Buffer.isFree_unlink]; exact h.full j
  have ends := h.exec handed (.inl full) (by rw [State.die_of_dies diesU])
  rw [State.settle_sends h.others diesU (.inl rfl) rfl] at ends
  refine ⟨_, ends, ?_, bufferU, fun x => ?_⟩
  · rw [hu, hv, hm]
    simp only [State.handed, State.passed, ← h.reads]
    rfl
  · have tEntry : s.isForLine l t = true ∧ s.isWrite t = true :=
      ⟨State.isForLine_iff.2 ⟨w, h.request, rfl⟩, (s.isWrite_of_some h.request).trans h.write⟩
    have entryU : u.request x = if x ∈ pulled then (v.request x).map (Request.stampedIfWrite m) else v.request x := by
      rw [← entries x, hu]
      rfl
    refine Eq.trans (show State.request _ x = u.request x from rfl) (entryU.trans ?_)
    by_cases hx : x = t
    · subst hx
      rw [if_neg fun k => h.fresh (List.mem_filter.1 k).1, if_pos ⟨List.mem_cons_self, tEntry⟩, requestV, request,
        if_pos rfl, h.request]
      rfl
    · rw [requestV, request, if_neg (Ne.symm hx)]
      by_cases hp : x ∈ pulled
      · obtain ⟨mem, line⟩ := List.mem_filter.1 hp
        obtain ⟨r, hr, -⟩ := State.isForLine_iff.1 line
        rw [if_pos hp, hr, s.isWrite_of_some hr, Option.map_some, Option.map_some]
        cases write : r.payload.isWrite with
        | true =>
          rw [if_pos ⟨List.mem_cons_of_mem _ mem, line, rfl⟩, Request.stampedIfWrite_write write]
          rfl
        | false => rw [if_neg (by simp), Request.stampedIfWrite_read write]
      · rw [if_neg hp, if_neg]
        rintro ⟨mem, line, -⟩
        exact hp (List.mem_filter.2 ⟨(List.mem_cons.1 mem).resolve_left hx, line⟩)

end

end Sys2Proof.Machine
end

section
/-! PROGRAM_END PASS with a write waiting for a line of a clean block: the buffer opens on the erased line, and the
read behind the write meets it or stays behind a held write (sections 1.5, 3.3 and 3.4; log entry 30). -/

namespace Sys2Proof.Machine

open Sys2Proof

/-- One read of the line behind the write is pulled alone (R25). -/
theorem State.pullLine_single {s : State} {l : LineAddr} {t : Tag} {r : Request} (waits : s.waitList = [t])
    (hr : s.request t = some r) (hl : r.line = l) (read : r.payload.isWrite = false) : s.pullLine l =
      State.takeRead { s with waitList := [] } t r (State.pulledReadCourse { s with waitList := [] } r) := by
  have line : s.isForLine l t = true := State.isForLine_iff.2 ⟨r, hr, hl⟩
  have pulled : s.waitList.filter (s.isForLine l) = [t] := by
    rw [waits, List.filter_cons_of_pos line, List.filter_nil]
  have left : (s.waitList.filter fun t' => !s.isForLine l t') = [] := by
    rw [waits, List.filter_cons_of_neg (by simp [line]), List.filter_nil]
  unfold State.pullLine
  rw [pulled, left]
  exact State.processVia_read (s := { s with waitList := [] }) hr read

/-- An answered request holds no read back any more (R143). -/
theorem State.writeHeldAhead_false_of_set_none {s u : State} {t : Tag} {r : Request} (blocks : u.blocks = s.blocks)
    (table : u.table = s.table.set t none) (h : s.writeHeldAhead r = false) : u.writeHeldAhead r = false := by
  unfold State.writeHeldAhead at h ⊢
  rw [show u.block r.line.global = s.block r.line.global by rw [State.block, blocks]; rfl]
  refine List.any_eq_false.2 fun x hx => ?_
  have unheld := List.any_eq_false.1 h x hx
  by_cases e : x = t
  · have entry : u.request x = none := by simp [State.request, table, e]
    rw [entry]
    simp
  · rw [State.request_of_set_none table e]
    exact unheld

theorem State.writeHeldAhead_of_set_none {s u : State} {t : Tag} {r : Request} (blocks : u.blocks = s.blocks)
    (table : u.table = s.table.set t none) (absent : t ∉ (s.block r.line.global).holdList) :
    u.writeHeldAhead r = s.writeHeldAhead r := by
  unfold State.writeHeldAhead
  rw [show u.block r.line.global = s.block r.line.global by rw [State.block, blocks]; rfl]
  refine any_congr_of_mem fun x hx => ?_
  rw [State.request_of_set_none table fun e => absent (e ▸ hx)]

theorem Buffer.isFree_of_line {b : Buffer} {l : LineAddr} (h : b.line? = some l) : b.isFree = false := by
  cases b with
  | free => cases h
  | _ => rfl

section
variable {s : State} {d : DieIx} {p : ProgramOp} {t t₂ : Tag} {w r₂ : Request} {m : AdmittedMode}

/-- The state in which the write has opened the freed buffer on the erased line and is merged into it. -/
def State.openedClean (s : State) (d : DieIx) (i : BufIx) (t t₂ : Tag) (w : Request) : State :=
  { s.handed d i [t₂] with
    table := s.table.set t none
    responses := s.responses ++ [⟨t, .ok, none⟩]
    buffers := (s.handed d i [t₂]).buffers.set i
      (.filling w.line s.openCounter ((LineBody.fresh erasedLine).overlay w) none s.coalescePoint)
    openCounter := s.openCounter + 1 }

theorem State.buffer_openedClean (s : State) (d : DieIx) (i j : BufIx) (t t₂ : Tag) (w : Request) :
    (s.openedClean d i t t₂ w).buffer j =
      if j = i then .filling w.line s.openCounter ((LineBody.fresh erasedLine).overlay w) none s.coalescePoint
      else (s.buffer j).unlink i := by
  have read := (s.handed d i [t₂]).buffer_setBuffer i j
    (.filling w.line s.openCounter ((LineBody.fresh erasedLine).overlay w) none s.coalescePoint)
  refine Eq.trans read ?_
  by_cases hj : j = i
  · rw [if_pos hj.symm, if_pos hj]
  · rw [if_neg (Ne.symm hj), if_neg hj, s.buffer_handed, if_neg hj]

theorem State.HandsOver.processWrite_clean (h : s.HandsOver d p t [t₂] w) (covers : w.coversNothing = false)
    (region : (s.regionOf w.line.global).map RegionEntry.mode =
      some (match m with
        | .combine => .combine
        | .appendOnce => .appendOnce))
    (unlocked : (s.block w.line.global).lock = .opened) (clean : (s.block w.line.global).clean = true) :
    (s.handed d p.buffer [t₂]).processWrite State.bufferCourse t =
      (s.openedClean d p.buffer t t₂ w).postIfCaused p.buffer := by
  rw [State.processWrite_admitted (s := s.handed d p.buffer [t₂]) h.request (h.verdict covers unlocked region),
    h.bufferCourse, if_pos clean]
  exact State.openWithBase_of_stampMode (s := s.handed d p.buffer [t₂]) (w.fits_erased m)

/-- The read behind the write is answered from the buffer just opened, where no held write is ahead of it
(R25, R59, R114). -/
theorem State.HandsOver.answersRead (h : s.HandsOver d p t [t₂] w) {met : State} {body : LineBody}
    (hr₂ : s.request t₂ = some r₂) (read : r₂.payload.isWrite = false) (hl : r₂.line = w.line)
    (hmet : (s.handed d p.buffer [t₂]).processWrite State.bufferCourse t = met)
    (buffer : (met.buffer p.buffer).body? = some body ∧ (met.buffer p.buffer).line? = some w.line ∧
      (met.buffer p.buffer).isProgramming = false)
    (others : ∀ j, j ≠ p.buffer → met.buffer j = (s.buffer j).unlink p.buffer)
    (same : met.waitList = [t₂] ∧ met.table = s.table.set t none ∧ met.blocks = s.blocks)
    (ahead : s.writeHeldAhead r₂ = false) (rest : met.atRest) (ready : (met.die d).state = .ready) :
    Machine.exec (.programEndPass d) s = .next { met with
      table := (s.table.set t none).set t₂ none
      waitList := []
      responses := met.responses ++ [⟨t₂, .ok, some (r₂.readData body.image)⟩] } := by
  obtain ⟨waits, table, blocks⟩ := same
  obtain ⟨hbody, hline, unprogrammed⟩ := buffer
  have hne : t₂ ≠ t := fun e => h.fresh (by rw [e]; exact List.mem_singleton_self _)
  have entry : met.request t₂ = some r₂ := (State.request_of_set_none table hne).trans hr₂
  have opened : met.openBuffer w.line = some p.buffer :=
    State.openBuffer_of_alone hline unprogrammed fun j hj => by
      rw [others j hj, Buffer.line?_unlink]
      exact h.alone j hj
  have course : State.pulledReadCourse { met with waitList := [] } r₂ = .answered body.image :=
    State.pulledReadCourse_body (s := { met with waitList := [] })
      (State.writeHeldAhead_false_of_set_none (s := s) blocks table ahead) (by rw [hl]; exact opened) hbody
  have handed : (s.passed d p.buffer).handTo t = { met with
      table := (s.table.set t none).set t₂ none
      waitList := []
      responses := met.responses ++ [⟨t₂, .ok, some (r₂.readData body.image)⟩] } := by
    rw [h.handTo_opens hmet opened, State.pullLine_single waits entry hl read, course, State.takeRead,
      State.answerRead_of_some (s := { met with waitList := [] }) entry, table]
  have full : met.lowestFree = none := State.lowestFree_none fun j => by
    by_cases hj : j = p.buffer
    · rw [hj]
      exact Buffer.isFree_of_line hline
    · rw [others j hj, Buffer.isFree_unlink]
      exact h.full j
  rw [h.exec handed (.inl full) ready, State.settle_of_atRest (by exact rest)]

/-- The read behind the write joins the block hold list, where a held write of the line is ahead of it (R53, R58,
R143). -/
theorem State.HandsOver.holdsRead (h : s.HandsOver d p t [t₂] w) {met : State}
    (hr₂ : s.request t₂ = some r₂) (read : r₂.payload.isWrite = false) (hl : r₂.line = w.line)
    (hmet : (s.handed d p.buffer [t₂]).processWrite State.bufferCourse t = met)
    (buffer : (met.buffer p.buffer).line? = some w.line ∧ (met.buffer p.buffer).isProgramming = false)
    (others : ∀ j, j ≠ p.buffer → met.buffer j = (s.buffer j).unlink p.buffer)
    (same : met.waitList = [t₂] ∧ met.table = s.table.set t none ∧ met.blocks = s.blocks)
    (ahead : s.writeHeldAhead r₂ = true) (unmarked : r₂.mark = false) (absent : t ∉ (s.block w.line.global).holdList)
    (erase : (s.block w.line.global).erase ≠ .none) (rest : met.atRest) (ready : (met.die d).state = .ready) :
    Machine.exec (.programEndPass d) s = .next { met with
      waitList := []
      blocks := s.blocks.set w.line.global { s.block w.line.global with
        holdList := (s.block w.line.global).holdList ++ [t₂] } } := by
  obtain ⟨waits, table, blocks⟩ := same
  obtain ⟨hline, unprogrammed⟩ := buffer
  have hne : t₂ ≠ t := fun e => h.fresh (by rw [e]; exact List.mem_singleton_self _)
  have entry : met.request t₂ = some r₂ := (State.request_of_set_none table hne).trans hr₂
  have opened : met.openBuffer w.line = some p.buffer :=
    State.openBuffer_of_alone hline unprogrammed fun j hj => by
      rw [others j hj, Buffer.line?_unlink]
      exact h.alone j hj
  obtain ⟨v, hv⟩ : ∃ v, v = ({ met with waitList := [] } : State) := ⟨_, rfl⟩
  have block : v.block w.line.global = s.block w.line.global := by
    rw [hv]
    exact congrArg (·[w.line.global]) blocks
  have heldAhead : v.writeHeldAhead r₂ = true := by
    rw [State.writeHeldAhead_of_set_none (s := s) (by rw [hv]; exact blocks) (by rw [hv]; exact table)
      (by rw [hl]; exact absent), ahead]
  have course : v.pulledReadCourse r₂ = .hold :=
    State.pulledReadCourse_held heldAhead (by rw [hv]; rfl) (State.writeHeldInBlock_of_ahead heldAhead)
      (by rw [hl, block]; exact erase) unmarked
  have handed : (s.passed d p.buffer).handTo t = { met with
      waitList := []
      blocks := s.blocks.set w.line.global { s.block w.line.global with
        holdList := (s.block w.line.global).holdList ++ [t₂] } } := by
    rw [h.handTo_opens hmet opened, State.pullLine_single waits entry hl read, ← hv, course, State.takeRead, hl,
      State.joinHold, State.modifyBlock, block, State.setBlock, show v.blocks = s.blocks by rw [hv]; exact blocks, hv]
  have full : met.lowestFree = none := State.lowestFree_none fun j => by
    by_cases hj : j = p.buffer
    · rw [hj]
      exact Buffer.isFree_of_line hline
    · rw [others j hj, Buffer.isFree_unlink]
      exact h.full j
  rw [h.exec handed (.inl full) ready, State.settle_of_atRest (by exact rest)]

end

/-! ## All clauses -/

/-- Settles O30: with nobody waiting the buffer is FREE, and otherwise the write and the requests of its line take
it clause by clause. -/
theorem programPassFreesBuffer : Obligations.ProgramPassFreesBuffer := by
  unfold Obligations.ProgramPassFreesBuffer
  refine ⟨fun d p s running others idle reads work resumes =>
    programPass_noneWaiting running others idle reads work resumes, ?_⟩
  intro d p t rest w m s x l y g freed ready running others context reads work flushes full waits fresh request write
    covers healthy region unheld online alone
  have h : s.HandsOver d p t rest w :=
    ⟨running, others, context, reads, work, flushes, full, waits, fresh, request, write, healthy, unheld, online, alone⟩
  refine ⟨fun unlocked dirty here writes readsBehind =>
      h.opensLoading covers region unlocked dirty here writes readsBehind, fun t₂ r₂ unlocked clean single hr₂ read hl => ?_,
    fun shut none => h.stopped region shut none⟩
  subst single
  intro body answers
  let opened : State := s.openedClean d p.buffer t t₂ w
  have processed := h.processWrite_clean covers region unlocked clean
  have buffer (j : BufIx) : opened.buffer j =
      if j = p.buffer then .filling l s.openCounter body none s.coalescePoint else freed j :=
    s.buffer_openedClean d p.buffer j t t₂ w
  have own : opened.buffer p.buffer = .filling l s.openCounter body none s.coalescePoint := by
    rw [buffer, if_pos rfl]
  have idle : Die.atRest { x with state := .ready } = true := by
    simp only [Die.atRest]
    rw [reads, work]
    rfl
  have atRest : opened.atRest := State.atRest_of_dies (s := s) others rfl idle
  have die : opened.die d = { x with state := .ready } := State.die_of_dies (s := s) rfl
  refine ⟨fun ahead stays => ?_, fun ahead behind tk pending away queue first => ?_⟩
  · have met : (s.handed d p.buffer [t₂]).processWrite State.bufferCourse t = opened := by
      rw [processed]
      exact State.postIfCaused_stays own stays
    have ends := h.answersRead hr₂ read hl met (by rw [own]; exact ⟨rfl, rfl, rfl⟩)
      (fun j hj => by rw [buffer, if_neg hj]) ⟨rfl, rfl, rfl⟩ ahead atRest (by rw [die])
    have point : s.coalescePoint = some (s.now + s.settings.coalesceWindow) :=
      State.coalescePoint_of_ne_zero fun w => stays (.inr (.inl w))
    refine ⟨_, ends, ?_, fun j => (buffer j).trans (by rw [point])⟩
    simp only [opened, State.openedClean, List.append_assoc]
    rfl
  · intro posted
    have dieOther : opened.die l.die = y := by
      have other := s.die_setDie d l.die { x with state := .ready }
      rw [if_neg (Ne.symm away)] at other
      exact other
    obtain ⟨met, hmet⟩ : ∃ met, met = ({ opened with
      buffers := opened.buffers.set p.buffer (.posted l s.openCounter body none)
      dies := posted } : State) := ⟨_, rfl⟩
    have processedTo : (s.handed d p.buffer [t₂]).processWrite State.bufferCourse t = met := by
      rw [processed, State.postIfCaused_posts own (.inr (.inr (.inr (.inl pending)))),
        State.post_ahead (ahead := ahead) (behind := behind) (tk := tk) own pending (by rw [dieOther]; exact queue) first,
        dieOther, hmet]
      rfl
    have metBuffer (j : BufIx) : met.buffer j =
        if j = p.buffer then .posted l s.openCounter body none else freed j := by
      have read := opened.buffer_setBuffer p.buffer j (.posted l s.openCounter body none)
      rw [hmet]
      refine Eq.trans read ?_
      by_cases hj : j = p.buffer
      · rw [if_pos hj.symm, if_pos hj]
      · rw [if_neg (Ne.symm hj), if_neg hj, buffer, if_neg hj]
    have metOwn : met.buffer p.buffer = .posted l s.openCounter body none := by rw [metBuffer, if_pos rfl]
    have busy : y.state = .ready → ahead ++ WorkEntry.program p.buffer :: .erase l.block tk :: behind = [] :=
      fun isReady => by
        have empty := (Die.atRest_ready (others l.die away) isReady).2
        rw [queue] at empty
        simp at empty
    have metAtRest : met.atRest := State.atRest_of_dies (atRest.others l.die)
      (x := { y with workQueue := ahead ++ .program p.buffer :: .erase l.block tk :: behind }) (by rw [hmet]; rfl)
      (Die.atRest_of_work (others l.die away) busy)
    have metReady : (met.die d).state = .ready := by
      have other := opened.die_setDie l.die d
        { y with workQueue := ahead ++ .program p.buffer :: .erase l.block tk :: behind }
      rw [if_neg away] at other
      rw [hmet]
      exact congrArg Die.state (other.trans die)
    have same : met.waitList = [t₂] ∧ met.table = s.table.set t none ∧ met.blocks = s.blocks := by
      rw [hmet]
      exact ⟨rfl, rfl, rfl⟩
    refine ⟨fun unheldRead => ?_, fun heldRead unmarked absent => ?_⟩
    · have ends := h.answersRead hr₂ read hl processedTo (by rw [metOwn]; exact ⟨rfl, rfl, rfl⟩)
        (fun j hj => by rw [metBuffer, if_neg hj]) same unheldRead metAtRest metReady
      refine ⟨_, ends, ?_, metBuffer⟩
      rw [hmet]
      simp only [opened, State.openedClean, List.append_assoc]
      rfl
    · have ends := h.holdsRead hr₂ read hl processedTo (by rw [metOwn]; exact ⟨rfl, rfl⟩)
        (fun j hj => by rw [metBuffer, if_neg hj]) same heldRead unmarked absent (by rw [pending]; nofun) metAtRest
        metReady
      refine ⟨_, ends, ?_, metBuffer⟩
      rw [hmet]
      rfl

end Sys2Proof.Machine
end

section
/-! Discarding buffers: what a list of buffers discarded in order leaves of the log, of the requests they held, of their
die's queues and of the flushes (section 1.4). -/

namespace Sys2Proof.Machine

open Sys2Proof

/-! ## Buffers that become FREE one after another -/

theorem State.buffer_foldl_freeBuffer (is : List BufIx) (s : State) (j : BufIx) : (is.foldl State.freeBuffer s).buffer j =
    if j ∈ is then .free else is.foldl Buffer.unlink (s.buffer j) := by
  induction is generalizing s with
  | nil => rfl
  | cons i is ih =>
    rw [List.foldl_cons, ih, s.buffer_freeBuffer, List.foldl_cons]
    by_cases hj : j = i
    · rw [if_pos hj, if_pos (show j ∈ i :: is by rw [hj]; exact List.mem_cons_self)]
      split
      · rfl
      · generalize is = l
        induction l with
        | nil => rfl
        | cons _ _ ih => exact ih
    · rw [if_neg hj]
      simp [hj]

/-- A buffer with a link to none of the freed ones is as it was (R18). -/
theorem Buffer.foldl_unlink_of_not_mem {is : List BufIx} {b : Buffer} (h : ∀ p, b.predecessor? = some p → p ∉ is) :
    is.foldl Buffer.unlink b = b := by
  induction is with
  | nil => rfl
  | cons i is ih =>
    have same : b.unlink i = b := by
      cases b with
      | filling l n body p due | posted l n body p =>
        have : p ≠ some i := fun e => h i e List.mem_cons_self
        simp [Buffer.unlink, this]
      | _ => rfl
    rw [List.foldl_cons, same]
    exact ih fun p hp k => h p hp (List.mem_cons_of_mem _ k)

theorem State.flushes_foldl_freeBuffer (is : List BufIx) (s : State) : (is.foldl State.freeBuffer s).flushes =
    s.flushes.map fun f => { f with members := f.members.filter fun j => !is.contains j } := by
  induction is generalizing s with
  | nil =>
    have self : (fun f : FlushRecord => { f with members := f.members.filter fun j => !([] : List BufIx).contains j }) =
        id := funext fun f => by simp
    rw [self, List.map_id]
    rfl
  | cons i is ih =>
    rw [List.foldl_cons, ih]
    simp only [State.freeBuffer, List.map_map]
    refine List.map_congr_left fun f _ => ?_
    simp only [Function.comp_apply, List.filter_filter, List.contains_cons, Bool.not_or]
    refine congrArg (fun ms => { f with members := ms }) (List.filter_congr fun j _ => ?_)
    rw [Bool.and_comm]
    rfl

@[simp] theorem Buffer.body?_unlink (b : Buffer) (i : BufIx) : (b.unlink i).body? = b.body? := by cases b <;> rfl

@[simp] theorem Buffer.held_unlink (b : Buffer) (i : BufIx) : (b.unlink i).held = b.held := by cases b <;> rfl

@[simp] theorem Buffer.isLoading_unlink (b : Buffer) (i : BufIx) : (b.unlink i).isLoading = b.isLoading := by
  cases b <;> rfl

/-! ## The requests of a discarded buffer -/

/-- The requests of a held list that a discard answers (R21). -/
def DiscardCause.answered (c : DiscardCause) (s : State) (ts : List Tag) : List Tag :=
  match c with
  | .blockFailed => ts.filter s.isWrite
  | .dieOffline => ts

/-- The array reads that the other requests of the list become (R21). -/
def DiscardCause.requeued (c : DiscardCause) (s : State) (ts : List Tag) : List ReadEntry :=
  match c with
  | .blockFailed => s.arrayReads ts
  | .dieOffline => []

/-- The detail the answers carry (R21). -/
def DiscardCause.detail : DiscardCause → FaultDetail
  | .blockFailed => .blockFailed
  | .dieOffline => .dieOffline

theorem State.foldl_settleHeld {c : DiscardCause} {s : State} {d : DieIx} {ts : List Tag} (nodup : ts.Nodup)
    (here : ∀ t ∈ ts, ∃ r, s.request t = some r ∧ r.line.die = d) : ts.foldl (State.settleHeld c) s = { s with
      table := s.tableWithout (c.answered s ts)
      responses := s.responses ++ (c.answered s ts).map fun t => ⟨t, .fault c.detail, none⟩
      dies := s.dies.set d { s.die d with readQueue := (s.die d).readQueue ++ c.requeued s ts } } := by
  cases c with
  | blockFailed => exact State.foldl_settleHeld_failed nodup here
  | dieOffline =>
    have self : s.dies.set d (s.die d) = s.dies := Vector.set_getElem_self _
    have outstanding : ∀ t ∈ ts, ∃ r, s.request t = some r := fun t ht => (here t ht).imp fun _ h => h.1
    refine (State.answerAll_of_outstanding nodup outstanding (.fault .dieOffline)).trans ?_
    simp only [DiscardCause.requeued, List.append_nil, self]
    rfl

theorem DiscardCause.answered_congr {c : DiscardCause} {s u : State} {ts : List Tag}
    (h : ∀ t ∈ ts, u.request t = s.request t) : c.answered u ts = c.answered s ts := by
  cases c with
  | blockFailed => exact State.filter_isWrite_congr h
  | dieOffline => rfl

theorem DiscardCause.requeued_congr {c : DiscardCause} {s u : State} {ts : List Tag}
    (h : ∀ t ∈ ts, u.request t = s.request t) : c.requeued u ts = c.requeued s ts := by
  cases c with
  | blockFailed => exact State.arrayReads_congr h
  | dieOffline => rfl

theorem DiscardCause.answered_append (c : DiscardCause) (s : State) (as bs : List Tag) :
    c.answered s (as ++ bs) = c.answered s as ++ c.answered s bs := by
  cases c with
  | blockFailed => exact List.filter_append ..
  | dieOffline => rfl

theorem DiscardCause.requeued_append (c : DiscardCause) (s : State) (as bs : List Tag) :
    c.requeued s (as ++ bs) = c.requeued s as ++ c.requeued s bs := by
  cases c with
  | blockFailed => simp only [DiscardCause.requeued, State.arrayReads, List.filter_append, List.filterMap_append]
  | dieOffline => rfl

theorem DiscardCause.mem_of_answered {c : DiscardCause} {s : State} {ts : List Tag} {t : Tag} (h : t ∈ c.answered s ts) :
    t ∈ ts := by
  cases c with
  | blockFailed => exact (List.mem_filter.1 h).1
  | dieOffline => exact h

/-- A host read is no base load, so that no discard withdraws it (R21). -/
theorem DiscardCause.isBaseLoadOf_requeued {c : DiscardCause} {s : State} {ts : List Tag} {e : ReadEntry}
    (h : e ∈ c.requeued s ts) (i : BufIx) : e.isBaseLoadOf i = false := by
  cases c with
  | blockFailed =>
    obtain ⟨t, -, ht⟩ := List.mem_filterMap.1 h
    obtain ⟨r, -, rfl⟩ := Option.map_eq_some_iff.1 ht
    rfl
  | dieOffline => cases h

/-! ## Discards in order -/

/-- The LINE_LOST record that the discard of a buffer writes, where it holds written bytes (R21). -/
def Buffer.lossRecord (c : DiscardCause) (b : Buffer) : Option FaultBody :=
  match b.line?, b.body? with
  | some l, some body => some (.lineLost c.loss l (Machine.writtenCount body.written))
  | _, _ => none

theorem Buffer.lossRecord_unlink (c : DiscardCause) (b : Buffer) (i : BufIx) :
    (b.unlink i).lossRecord c = b.lossRecord c := by
  unfold Buffer.lossRecord
  rw [b.line?_unlink, b.body?_unlink]

/-- The die's queues once the buffers of a list are discarded: their base loads and PROGRAM entries are withdrawn, and
the reads they held join the read queue (R21). -/
def Die.withdraw (x : Die) (s : State) (is : List BufIx) (reads : List ReadEntry) : Die :=
  { x with
    readQueue := (x.readQueue.filter fun e => is.all fun i => !((s.buffer i).isLoading && e.isBaseLoadOf i)) ++ reads
    workQueue := x.workQueue.filter fun e => is.all fun i => (s.buffer i).isLoading || e != .program i }

/-- The state that the discard of the buffers of a list leaves, all of them of die `d` (R21). -/
def State.discarded (c : DiscardCause) (s : State) (d : DieIx) (is : List BufIx) : State :=
  let held := is.flatMap fun i => (s.buffer i).held
  { s.recorded (is.filterMap fun i => (s.buffer i).lossRecord c) with
    table := s.tableWithout (c.answered s held)
    responses := s.responses ++ (c.answered s held).map fun t => ⟨t, .fault c.detail, none⟩
    buffers := (is.foldl State.freeBuffer s).buffers
    flushes := (is.foldl State.freeBuffer s).flushes
    dies := s.dies.set d ((s.die d).withdraw s is (c.requeued s held)) }

theorem DiscardCause.answered_nil (c : DiscardCause) (s : State) : c.answered s [] = [] := by cases c <;> rfl

theorem DiscardCause.requeued_nil (c : DiscardCause) (s : State) : c.requeued s [] = [] := by cases c <;> rfl

/-- A buffer that holds written bytes is discarded (R21). -/
theorem State.discarded_body {c : DiscardCause} {s : State} {i : BufIx} {l : LineAddr} {body : LineBody}
    (hl : (s.buffer i).line? = some l) (hb : (s.buffer i).body? = some body) (loading : (s.buffer i).isLoading = false)
    (held : (s.buffer i).held = []) : (s.loseLine i c.loss l body).freeBuffer i = s.discarded c l.die [i] := by
  have loss : (s.buffer i).lossRecord c = some (.lineLost c.loss l (Machine.writtenCount body.written)) := by
    rw [Buffer.lossRecord, hl, hb]
  have reads : ((s.die l.die).readQueue.filter fun e => [i].all fun j => !((s.buffer j).isLoading && e.isBaseLoadOf j)) =
      (s.die l.die).readQueue := List.filter_eq_self.2 fun e _ => by simp [loading]
  have work : ((s.die l.die).workQueue.filter fun e => [i].all fun j => (s.buffer j).isLoading || e != .program j) =
      (s.die l.die).workQueue.filter (· != .program i) := List.filter_congr fun e _ => by simp [loading]
  unfold State.loseLine State.discarded Die.withdraw
  simp only [List.filterMap_cons, List.filterMap_nil, loss, List.flatMap_cons, List.flatMap_nil, held, List.append_nil,
    c.answered_nil, c.requeued_nil, reads, work, List.map_nil, State.writeFault_eq_recorded]
  rfl

/-- A LOADING buffer is discarded (R21). -/
theorem State.discarded_loading {c : DiscardCause} {s : State} {d : DieIx} {i : BufIx} {l : LineAddr} {n : Nat}
    {held : List Tag} (log : s.recorded [] = s) (hb : s.buffer i = .loading l n held) (hd : l.die = d)
    (nodup : held.Nodup) (here : ∀ t ∈ held, ∃ r, s.request t = some r ∧ r.line.die = d) :
    (held.foldl (State.settleHeld c) (s.modifyDie l.die fun x =>
      { x with readQueue := x.readQueue.filter fun e => !e.isBaseLoadOf i })).freeBuffer i = s.discarded c d [i] := by
  subst hd
  have loss : (s.buffer i).lossRecord c = none := by rw [hb]; rfl
  have heldList : (s.buffer i).held = held := by rw [hb]; rfl
  have reads : ((s.die l.die).readQueue.filter fun e => [i].all fun j => !((s.buffer j).isLoading && e.isBaseLoadOf j)) =
      (s.die l.die).readQueue.filter fun e => !e.isBaseLoadOf i := List.filter_congr fun e _ => by simp [hb, Buffer.isLoading]
  have work : ((s.die l.die).workQueue.filter fun e => [i].all fun j => (s.buffer j).isLoading || e != .program j) =
      (s.die l.die).workQueue := List.filter_eq_self.2 fun e _ => by simp [hb, Buffer.isLoading]
  obtain ⟨v, hv⟩ : ∃ v, v = s.modifyDie l.die fun x =>
      { x with readQueue := x.readQueue.filter fun e => !e.isBaseLoadOf i } := ⟨_, rfl⟩
  have same : ∀ t ∈ held, v.request t = s.request t := fun t _ => by rw [hv]; rfl
  have die : v.die l.die =
      { s.die l.die with readQueue := (s.die l.die).readQueue.filter fun e => !e.isBaseLoadOf i } := by
    rw [hv, State.die_modifyDie, if_pos rfl]
  rw [← hv, State.foldl_settleHeld nodup (fun t ht => by rw [same t ht]; exact here t ht),
    DiscardCause.answered_congr same, DiscardCause.requeued_congr same, die]
  unfold State.discarded Die.withdraw
  simp only [List.filterMap_cons, List.filterMap_nil, loss, List.flatMap_cons, List.flatMap_nil, heldList,
    List.append_nil, reads, work, log]
  rw [hv]
  simp only [State.modifyDie, State.setDie, Vector.set_set]
  rfl

/-- One buffer is discarded (R21). -/
theorem State.discard_eq {c : DiscardCause} {s : State} {d : DieIx} {i : BufIx} {l : LineAddr} (log : s.recorded [] = s)
    (hl : (s.buffer i).line? = some l) (hd : l.die = d) (nodup : (s.buffer i).held.Nodup)
    (here : ∀ t ∈ (s.buffer i).held, ∃ r, s.request t = some r ∧ r.line.die = d) :
    State.discard c s i = s.discarded c d [i] := by
  cases hb : s.buffer i with
  | free => rw [hb] at hl; cases hl
  | loading k n h =>
    rw [hb] at hl nodup here
    cases hl
    rw [← State.discarded_loading log hb hd nodup here, State.discard, hb]
  | filling k n body p due | posted k n body p | programming k n body a =>
    have line : (s.buffer i).line? = some k := by rw [hb]; rfl
    rw [hb] at hl
    cases hl
    rw [← hd, ← State.discarded_body (body := body) line (by rw [hb]; rfl) (by rw [hb]; rfl) (by rw [hb]; rfl),
      State.discard, hb]

theorem State.recorded_nil_iff (s : State) :
    s.recorded [] = s ↔ (s.overflow || Decidable.decide (16 < s.faultLog.length)) = s.overflow := by
  constructor
  · exact congrArg State.overflow
  · intro h
    unfold State.recorded
    simp only [List.zipIdx_nil, List.map_nil, List.take_nil, List.append_nil, List.length_nil, Nat.add_zero, h]
    simp

/-- Once a record is written, writing none changes nothing. -/
theorem State.recorded_nil_of_recorded {s u : State} {bs : List FaultBody} (log : u.faultLog = (s.recorded bs).faultLog)
    (overflow : u.overflow = (s.recorded bs).overflow) : u.recorded [] = u := by
  have again : (s.recorded bs).recorded [] = s.recorded bs := by rw [State.recorded_append, List.append_nil]
  rw [State.recorded_nil_iff, log, overflow]
  exact (State.recorded_nil_iff _).1 again

theorem State.buffer_discarded (c : DiscardCause) (s : State) (d : DieIx) (is : List BufIx) (j : BufIx) :
    (s.discarded c d is).buffer j = if j ∈ is then .free else is.foldl Buffer.unlink (s.buffer j) :=
  State.buffer_foldl_freeBuffer is s j

theorem State.request_discarded (c : DiscardCause) (s : State) (d : DieIx) (is : List BufIx) (t : Tag) :
    (s.discarded c d is).request t =
      if t ∈ c.answered s (is.flatMap fun i => (s.buffer i).held) then none else s.request t :=
  State.request_of_tableWithout rfl t

theorem State.die_discarded (c : DiscardCause) (s : State) (d : DieIx) (is : List BufIx) :
    (s.discarded c d is).die d =
      (s.die d).withdraw s is (c.requeued s (is.flatMap fun i => (s.buffer i).held)) :=
  State.die_of_dies rfl

theorem State.discarded_nil {c : DiscardCause} {s : State} (d : DieIx) (log : s.recorded [] = s) :
    s.discarded c d [] = s := by
  have all (e : ReadEntry) : (([] : List BufIx).all fun i => !((s.buffer i).isLoading && e.isBaseLoadOf i)) = true := rfl
  have same : (s.die d).withdraw s [] [] = s.die d := by simp [Die.withdraw]
  have self : s.dies.set d (s.die d) = s.dies := Vector.set_getElem_self _
  unfold State.discarded
  simp only [List.filterMap_nil, List.flatMap_nil, c.answered_nil, c.requeued_nil, same, self, log, List.map_nil,
    List.append_nil]
  rfl

theorem all_congr_of_mem {α : Type} {l : List α} {p q : α → Bool} (h : ∀ x ∈ l, p x = q x) : l.all p = l.all q := by
  rw [List.all_eq_not_any_not, List.all_eq_not_any_not, any_congr_of_mem fun x hx => by rw [h x hx]]

theorem filter_filter_and {α : Type} (l : List α) (p q : α → Bool) :
    (l.filter p).filter q = l.filter fun x => p x && q x := by
  rw [List.filter_filter]
  exact List.filter_congr fun x _ => Bool.and_comm _ _

theorem State.foldl_freeBuffer_congr {s u : State} (is : List BufIx) (buffers : u.buffers = s.buffers)
    (flushes : u.flushes = s.flushes) : (is.foldl State.freeBuffer u).buffers = (is.foldl State.freeBuffer s).buffers ∧
      (is.foldl State.freeBuffer u).flushes = (is.foldl State.freeBuffer s).flushes := by
  induction is generalizing s u with
  | nil => exact ⟨buffers, flushes⟩
  | cons i is ih => exact ih (by simp only [State.freeBuffer, buffers]) (by simp only [State.freeBuffer, flushes])

/-- Discards one after another are the discard of the whole list. -/
theorem State.discarded_discarded {c : DiscardCause} {s : State} {d : DieIx} {i : BufIx} {is : List BufIx}
    (hnew : i ∉ is) (apart : ∀ t ∈ is.flatMap fun j => (s.buffer j).held, t ∉ (s.buffer i).held) :
    (s.discarded c d [i]).discarded c d is = s.discarded c d (i :: is) := by
  obtain ⟨u, hu⟩ : ∃ u, u = s.discarded c d [i] := ⟨_, rfl⟩
  have buffer {j : BufIx} (hj : j ∈ is) : u.buffer j = (s.buffer j).unlink i := by
    have hne : j ≠ i := fun e => hnew (e ▸ hj)
    rw [hu, State.buffer_discarded, if_neg (by simpa using hne)]
    rfl
  have losses : (is.filterMap fun j => (u.buffer j).lossRecord c) = is.filterMap fun j => (s.buffer j).lossRecord c :=
    List.filterMap_congr fun j hj => by rw [buffer hj, Buffer.lossRecord_unlink]
  have held : (is.flatMap fun j => (u.buffer j).held) = is.flatMap fun j => (s.buffer j).held :=
    List.flatMap_congr fun j hj => by rw [buffer hj, Buffer.held_unlink]
  have request : ∀ t ∈ is.flatMap fun j => (s.buffer j).held, u.request t = s.request t := fun t ht => by
    rw [hu, State.request_discarded, if_neg]
    exact fun k => apart t ht (by simpa using DiscardCause.mem_of_answered k)
  have queues : (u.die d).withdraw u is (c.requeued s (is.flatMap fun j => (s.buffer j).held)) =
      (s.die d).withdraw s (i :: is) (c.requeued s ((i :: is).flatMap fun j => (s.buffer j).held)) := by
    have reads (e : ReadEntry) : (is.all fun j => !((u.buffer j).isLoading && e.isBaseLoadOf j)) =
        is.all fun j => !((s.buffer j).isLoading && e.isBaseLoadOf j) :=
      all_congr_of_mem fun j hj => by rw [buffer hj, Buffer.isLoading_unlink]
    have work (e : WorkEntry) : (is.all fun j => (u.buffer j).isLoading || e != .program j) =
        is.all fun j => (s.buffer j).isLoading || e != .program j :=
      all_congr_of_mem fun j hj => by rw [buffer hj, Buffer.isLoading_unlink]
    have kept : (c.requeued s (s.buffer i).held).filter (fun e => is.all fun j => !((s.buffer j).isLoading && e.isBaseLoadOf j))
        = c.requeued s (s.buffer i).held :=
      List.filter_eq_self.2 fun e he => List.all_eq_true.2 fun j _ => by simp [DiscardCause.isBaseLoadOf_requeued he]
    rw [hu, State.die_discarded, ← hu]
    simp only [Die.withdraw, reads, work, List.filter_append, filter_filter_and, List.flatMap_cons, List.flatMap_nil,
      List.append_nil, kept, c.requeued_append, List.append_assoc, List.all_cons, List.all_nil, Bool.and_true]
  rw [← hu, show u.discarded c d is = { u.recorded (is.filterMap fun j => (u.buffer j).lossRecord c) with
    table := u.tableWithout (c.answered u (is.flatMap fun j => (u.buffer j).held))
    responses := u.responses ++ (c.answered u (is.flatMap fun j => (u.buffer j).held)).map
      fun t => ⟨t, .fault c.detail, none⟩
    buffers := (is.foldl State.freeBuffer u).buffers
    flushes := (is.foldl State.freeBuffer u).flushes
    dies := u.dies.set d ((u.die d).withdraw u is (c.requeued u (is.flatMap fun j => (u.buffer j).held))) } from rfl,
    losses, held, DiscardCause.answered_congr request, DiscardCause.requeued_congr request, queues,
    hu]
  have log := s.recorded_append ([i].filterMap fun j => (s.buffer j).lossRecord c)
    (is.filterMap fun j => (s.buffer j).lossRecord c)
  rw [← List.filterMap_append, List.singleton_append] at log
  have freed := State.foldl_freeBuffer_congr (s := s.freeBuffer i) (u := s.discarded c d [i]) is rfl rfl
  rw [freed.1, freed.2]
  have answers : c.answered s ((i :: is).flatMap fun j => (s.buffer j).held) =
      c.answered s ([i].flatMap fun j => (s.buffer j).held) ++ c.answered s (is.flatMap fun j => (s.buffer j).held) := by
    rw [← c.answered_append]
    simp only [List.flatMap_cons, List.flatMap_nil, List.append_nil]
  rw [show s.discarded c d (i :: is) = { s.recorded ((i :: is).filterMap fun j => (s.buffer j).lossRecord c) with
    table := s.tableWithout (c.answered s ((i :: is).flatMap fun j => (s.buffer j).held))
    responses := s.responses ++ (c.answered s ((i :: is).flatMap fun j => (s.buffer j).held)).map
      fun t => ⟨t, .fault c.detail, none⟩
    buffers := (is.foldl State.freeBuffer (s.freeBuffer i)).buffers
    flushes := (is.foldl State.freeBuffer (s.freeBuffer i)).flushes
    dies := s.dies.set d ((s.die d).withdraw s (i :: is) (c.requeued s ((i :: is).flatMap fun j => (s.buffer j).held))) }
    from rfl, answers, ← log]
  simp only [State.tableWithout, List.foldl_append, List.map_append, ← List.append_assoc]
  rw [State.discarded]
  simp only [Vector.set_set]
  rfl

/-- The buffers of a list, all of one die, are discarded in order (R20, R21, R87). -/
theorem State.foldl_discard {c : DiscardCause} {s : State} {d : DieIx} {is : List BufIx} (log : s.recorded [] = s)
    (nodup : is.Nodup) (onDie : ∀ i ∈ is, ∃ l, (s.buffer i).line? = some l ∧ l.die = d)
    (heldNodup : (is.flatMap fun i => (s.buffer i).held).Nodup)
    (here : ∀ t ∈ is.flatMap fun i => (s.buffer i).held, ∃ r, s.request t = some r ∧ r.line.die = d) :
    is.foldl (State.discard c) s = s.discarded c d is := by
  induction is generalizing s with
  | nil => exact (State.discarded_nil d log).symm
  | cons i is ih =>
    obtain ⟨hnew, nodup⟩ := List.nodup_cons.mp nodup
    obtain ⟨l, hl, hd⟩ := onDie i List.mem_cons_self
    rw [List.flatMap_cons] at heldNodup here
    obtain ⟨own, later, apart⟩ := List.nodup_append.1 heldNodup
    have disjoint : ∀ t ∈ is.flatMap fun j => (s.buffer j).held, t ∉ (s.buffer i).held :=
      fun t ht k => apart t k t ht rfl
    have buffer {j : BufIx} (hj : j ∈ is) : (s.discarded c d [i]).buffer j = (s.buffer j).unlink i := by
      have hne : j ≠ i := fun e => hnew (e ▸ hj)
      rw [State.buffer_discarded, if_neg (by simpa using hne)]
      rfl
    have held : (is.flatMap fun j => ((s.discarded c d [i]).buffer j).held) = is.flatMap fun j => (s.buffer j).held :=
      List.flatMap_congr fun j hj => by rw [buffer hj, Buffer.held_unlink]
    have request : ∀ t ∈ is.flatMap fun j => (s.buffer j).held, (s.discarded c d [i]).request t = s.request t :=
      fun t ht => by
        rw [State.request_discarded, if_neg]
        exact fun k => disjoint t ht (by simpa using DiscardCause.mem_of_answered k)
    rw [List.foldl_cons, State.discard_eq log hl hd own fun t ht => here t (List.mem_append_left _ ht),
      ih (s := s.discarded c d [i])
        (State.recorded_nil_of_recorded (s := s) (bs := [i].filterMap fun j => (s.buffer j).lossRecord c) rfl rfl) nodup (fun j hj => ?_) (by rw [held]; exact later) (fun t ht => ?_),
      State.discarded_discarded hnew disjoint]
    · rw [buffer hj, Buffer.line?_unlink]
      exact onDie j (List.mem_cons_of_mem _ hj)
    · rw [held] at ht
      rw [request t ht]
      exact here t (List.mem_append_right _ ht)

end Sys2Proof.Machine
end

section
/-! A final PROGRAM_END FAIL: the line is lost, and the other buffers of its block are discarded (sections 1.4 and
4.7). -/

namespace Sys2Proof.Machine

open Sys2Proof

theorem Buffer.inBlock_iff {b : Buffer} {g : GlobalBlock} : b.inBlock g = true ↔ ∃ l, b.line? = some l ∧ l.global = g := by
  unfold Buffer.inBlock
  cases b.line? <;> simp

/-- The buffers freed one after another, in terms of those that a predicate picks (R18, R28). -/
theorem State.freeAll_spec {s : State} {is : List BufIx} {gone : BufIx → Bool} (mem : ∀ j, j ∈ is ↔ gone j = true)
    (linked : ∀ j p, (s.buffer j).predecessor? = some p → gone p = true → gone j = true) :
    (∀ j, (is.foldl State.freeBuffer s).buffer j = if gone j then .free else s.buffer j) ∧
      (is.foldl State.freeBuffer s).flushes =
        s.flushes.map fun f => { f with members := f.members.filter fun i => !gone i } := by
  refine ⟨fun j => ?_, ?_⟩
  · rw [State.buffer_foldl_freeBuffer]
    by_cases hj : gone j = true
    · rw [if_pos ((mem j).2 hj), if_pos hj]
    · rw [if_neg (mt (mem j).1 hj), if_neg hj]
      exact Buffer.foldl_unlink_of_not_mem fun p hp k => hj (linked j p hp ((mem p).1 k))
  · rw [State.flushes_foldl_freeBuffer]
    refine List.map_congr_left fun f _ => congrArg (fun ms => { f with members := ms }) (List.filter_congr fun j _ => ?_)
    rw [Bool.eq_iff_iff]
    simp [mem]

theorem exec_programEndFail {d : DieIx} {p : ProgramOp} {s : State} (running : (s.die d).runningProgram = some p)
    (context : (s.die d).context = []) : exec (.programEndFail d) s = .next ((((
      { s with dies := s.dies.set d { s.die d with state := .ready }, out := Outputs.none } : State).programFailed
        p.buffer).decideAtOnce d).settle) := by
  simp only [exec, execProgramEndFail, running]
  rw [s.quiet_idle context]

/-- The state in which a final FAIL has written its record and failed its block. -/
def State.lineFailed (s : State) (d : DieIx) (l : LineAddr) (body : LineBody) : State :=
  { s.recorded [.lineLost .programFail l (Machine.writtenCount body.written)] with
    blocks := s.blocks.set l.global { s.block l.global with health := .failed }
    dies := s.dies.set d { s.die d with state := .ready }
    out := Outputs.none }

theorem State.programFailed_final {s : State} {i : BufIx} {l : LineAddr} {n : Nat} {body : LineBody}
    (hb : s.buffer i = .programming l n body 1) : s.programFailed i = s.lineLost i l body := by
  unfold State.programFailed
  rw [hb]
  exact if_neg (by decide)

/-- Settles O32: the failing buffer is freed after the other buffers of its block, which are discarded in order. -/
theorem finalProgramFailLosesLine : Obligations.FinalProgramFailLosesLine := by
  unfold Obligations.FinalProgramFailLosesLine
  intro d p l n body s x gone others held writes reads work lost running hb hd context idleWork atRestOthers idle pool
    nodup here
  obtain ⟨v, hv⟩ : ∃ v, v = s.lineFailed d l body := ⟨_, rfl⟩
  have buffer (j : BufIx) : v.buffer j = s.buffer j := by rw [hv]; rfl
  have request (t : Tag) : v.request t = s.request t := by rw [hv]; rfl
  have die : v.die d = { x with state := .ready } := by
    rw [hv]
    exact State.die_of_dies (s := s) rfl
  have ownGone : gone p.buffer = true := Buffer.inBlock_iff.2 ⟨l, by rw [hb]; rfl, rfl⟩
  have onDie : ∀ i ∈ others, ∃ k, (v.buffer i).line? = some k ∧ k.die = d := fun i hi => by
    obtain ⟨k, hk, hg⟩ := Buffer.inBlock_iff.1 (Bool.and_eq_true_iff.1 (List.mem_filter.1 hi).2).2
    refine ⟨k, by rw [buffer, hk], ?_⟩
    rw [← dieOf_global, hg, dieOf_global, hd]
  have heldOf : (others.flatMap fun i => (v.buffer i).held) = held := by
    simp only [buffer, held]
  have log : v.recorded [] = v := by
    rw [hv]
    exact State.recorded_nil_of_recorded (s := s)
      (bs := [.lineLost .programFail l (Machine.writtenCount body.written)]) rfl rfl
  have discards := State.foldl_discard (c := .blockFailed) log (List.Nodup.filter _ (by decide)) onDie
    (by rw [heldOf]; exact nodup) (by rw [heldOf]; exact fun t ht => by rw [request]; exact here t ht)
  obtain ⟨w, hw⟩ : ∃ w, w = v.discarded .blockFailed d others := ⟨_, rfl⟩
  rw [← hw] at discards
  have failed : State.programFailed
      ({ s with dies := s.dies.set d { s.die d with state := .ready }, out := Outputs.none } : State) p.buffer =
      (w.freeBuffer p.buffer).afterFree := by
    rw [State.programFailed_final (by exact hb)]
    simp only [State.lineLost, State.writeFault_eq_recorded, State.discardAll]
    rw [← discards, hv]
    rfl
  have losses : (others.filterMap fun i => (v.buffer i).lossRecord .blockFailed) = lost := by
    simp only [buffer]
    rfl
  have answered : DiscardCause.blockFailed.answered v held = writes := State.filter_isWrite_congr fun t _ => request t
  have requeued : DiscardCause.blockFailed.requeued v held = s.arrayReads held :=
    State.arrayReads_congr fun t _ => request t
  have queues : (v.die d).withdraw v others (s.arrayReads held) =
      { x with state := .ready, readQueue := reads, workQueue := work } := by
    rw [die]
    simp only [Die.withdraw, buffer]
    rfl
  have shape : w = { s.recorded (.lineLost .programFail l (Machine.writtenCount body.written) :: lost) with
      table := s.tableWithout writes
      responses := s.responses ++ writes.map fun t => ⟨t, .fault .blockFailed, none⟩
      buffers := w.buffers, flushes := w.flushes
      blocks := s.blocks.set l.global { s.block l.global with health := .failed }
      dies := s.dies.set d { x with state := .ready, readQueue := reads, workQueue := work }
      out := Outputs.none } := by
    have records := s.recorded_append [.lineLost .programFail l (Machine.writtenCount body.written)] lost
    rw [List.singleton_append] at records
    rw [← records, hw]
    simp only [State.discarded, heldOf, losses, answered, requeued, queues]
    rw [hv]
    simp only [State.lineFailed, Vector.set_set]
    rfl
  have mem (j : BufIx) : j ∈ others ++ [p.buffer] ↔ gone j = true := by
    simp only [others, List.mem_append, List.mem_filter, List.mem_singleton, State.mem_bufferIndices, true_and,
      Bool.and_eq_true, bne_iff_ne]
    by_cases hj : j = p.buffer
    · simp [hj, ownGone]
    · simp [hj]
  have linked (j q : BufIx) (hq : (v.buffer j).predecessor? = some q) (k : gone q = true) : gone j = true := by
    rw [buffer] at hq
    have line := (pool.2 j q hq).2
    simp only [gone, Buffer.inBlock] at k ⊢
    rw [← line]
    exact k
  obtain ⟨buffers, flushes⟩ := State.freeAll_spec mem linked
  have freedAll := State.foldl_freeBuffer_congr (s := others.foldl State.freeBuffer v) (u := w) [p.buffer]
    (by rw [hw]; rfl) (by rw [hw]; rfl)
  rw [← List.foldl_append] at freedAll
  have freedFlushes : (w.freeBuffer p.buffer).flushes =
      s.flushes.map fun f => { f with members := f.members.filter fun i => !gone i } := by
    refine freedAll.2.trans (flushes.trans ?_)
    rw [hv]
    rfl
  have nobody : (w.freeBuffer p.buffer).noWriteWaits :=
    State.noWriteWaits_of_tableWithout (s := s) (ts := writes) idle (by rw [shape]; rfl) (by rw [shape]; rfl)
  have after : (w.freeBuffer p.buffer).afterFree = { w with
      buffers := (w.freeBuffer p.buffer).buffers
      flushes := (s.flushes.map fun f => { f with members := f.members.filter fun i => !gone i }).filter
        fun f => f.members ≠ []
      completions := s.completions ++
        (s.flushes.filter fun f => f.members.all gone).map fun f => ⟨f.ticket, .flush, .done, f.scope, none⟩ } := by
    rw [State.afterFree_idle nobody, State.completeFlushes_without (s := s) gone freedFlushes]
    rw [shape]
    rfl
  obtain ⟨u, hu⟩ : ∃ u, u = (w.freeBuffer p.buffer).afterFree := ⟨_, rfl⟩
  have uDies : u.dies = s.dies.set d { x with state := .ready, readQueue := reads, workQueue := work } := by
    rw [hu, after, shape]
  have ends : exec (.programEndFail d) s = .next u.settle := by
    rw [exec_programEndFail running context, failed, ← hu,
      State.decideAtOnce_ready (by rw [State.die_of_dies uDies])]
  have table (t : Tag) : u.request t = if t ∈ writes then none else s.request t :=
    State.request_of_tableWithout (by rw [hu, after, shape]) t
  have freed (j : BufIx) : u.buffer j = if gone j then .free else s.buffer j := by
    have read := buffers j
    rw [buffer] at read
    rw [← read, hu, after, State.buffer, State.buffer, ← freedAll.1]
    rfl
  have left : u.flushes = (s.flushes.map fun f => { f with members := f.members.filter fun i => !gone i }).filter
      (fun f => f.members ≠ []) := by rw [hu, after]
  have completed : u.completions = s.completions ++
      (s.flushes.filter fun f => f.members.all gone).map fun f => ⟨f.ticket, .flush, .done, f.scope, none⟩ := by
    rw [hu, after]
  have uShape : u = { s.recorded (.lineLost .programFail l (Machine.writtenCount body.written) :: lost) with
      table := u.table
      responses := s.responses ++ writes.map fun t => ⟨t, .fault .blockFailed, none⟩
      buffers := u.buffers, flushes := u.flushes, completions := u.completions
      blocks := s.blocks.set l.global { s.block l.global with health := .failed }
      dies := s.dies.set d { x with state := .ready, readQueue := reads, workQueue := work }
      out := Outputs.none } := by
    rw [hu, after, shape]
  cases hreads : reads with
  | nil =>
    have idleDie : Die.atRest { x with state := .ready, readQueue := reads, workQueue := work } = true := by
      simp only [Die.atRest]
      rw [hreads, idleWork hreads]
      rfl
    refine ⟨u, by rw [ends, State.settle_of_atRest (State.atRest_of_dies atRestOthers uDies idleDie)], ?_, table, freed,
      left, completed⟩
    rw [hreads, idleWork hreads] at uShape
    exact uShape
  | cons e rest =>
    rw [hreads] at uDies
    rw [State.settle_sends atRestOthers uDies (.inl rfl) rfl] at ends
    refine ⟨_, ends, ?_, table, freed, left, completed⟩
    rw [uShape]
    rfl

end Sys2Proof.Machine
end

section
/-! A die goes OFFLINE: the requests that wait on it are faulted, its buffers discarded and its erases completed FAILED
(sections 1.4, 4.8 and 6.6). -/

namespace Sys2Proof.Machine

open Sys2Proof

/-! ## The requests that wait on the die -/

/-- The requests that the first settling step of a die's going OFFLINE answers (R87). -/
def State.faultedFirst (s : State) (d : DieIx) : List Tag :=
  (s.die d).hostReads ++ s.heldForDie d ++ s.waitList.filter (s.isForDie d)

theorem State.faultWaiting_eq {s : State} {d : DieIx} (nodup : (s.faultedFirst d).Nodup)
    (out : ∀ t ∈ s.faultedFirst d, ∃ r, s.request t = some r) : s.faultWaiting d = { s with
      table := s.tableWithout (s.faultedFirst d)
      responses := s.responses ++ (s.faultedFirst d).map fun t => ⟨t, .fault .dieOffline, none⟩
      blocks := mapIndexed (fun g b => if g / 256 = d.val then { b with holdList := [] } else b) s.blocks
      waitList := s.waitList.filter fun t => !s.isForDie d t } := by
  have left : (s.waitList.filter fun t => !(s.waitList.filter (s.isForDie d)).contains t) =
      s.waitList.filter fun t => !s.isForDie d t := by
    refine List.filter_congr fun t ht => congrArg (!·) ?_
    rw [Bool.eq_iff_iff, List.contains_iff_mem, List.mem_filter]
    simp [ht]
  have faulted : s.faultWaiting d = { (s.answerAll (s.faultedFirst d) (.fault .dieOffline)).mapBlocks
      (fun g b => if g / 256 = d.val then { b with holdList := [] } else b) with
    waitList := (s.answerAll (s.faultedFirst d) (.fault .dieOffline)).waitList.filter fun t =>
      !(s.waitList.filter (s.isForDie d)).contains t } := rfl
  rw [faulted, State.answerAll_of_outstanding nodup out]
  exact congrArg (fun ws => ({ s with
    table := s.tableWithout (s.faultedFirst d)
    responses := s.responses ++ (s.faultedFirst d).map fun t => ⟨t, .fault .dieOffline, none⟩
    blocks := mapIndexed (fun g b => if g / 256 = d.val then { b with holdList := [] } else b) s.blocks
    waitList := ws } : State)) left

theorem State.block_faultWaiting_blocks (s : State) (d : DieIx) (g : GlobalBlock) :
    (s.mapBlocks fun g b => if g / 256 = d.val then { b with holdList := [] } else b).block g =
      if dieOf g = d then { s.block g with holdList := [] } else s.block g := by
  rw [State.block_mapBlocks]
  simp only [dieOf_eq_iff]

/-- The hold lists of a die's blocks do not depend on the rest of the block records. -/
theorem State.heldForDie_congr {s u : State} (d : DieIx) (h : ∀ g, (u.block g).holdList = (s.block g).holdList) :
    u.heldForDie d = s.heldForDie d := by
  have lists : u.blocks.toList.map BlockRecord.holdList = s.blocks.toList.map BlockRecord.holdList := by
    refine List.ext_getElem (by simp) fun i h₁ h₂ => ?_
    have hi : i < 1024 := by simpa using h₁
    simpa [State.block] using h ⟨i, hi⟩
  unfold State.heldForDie
  rw [List.flatMap_def, List.flatMap_def, List.map_take, List.map_drop, lists, ← List.map_drop, ← List.map_take]

/-! ## The erases of the die -/

theorem State.clearMarks_eq_self {s : State} {g : GlobalBlock}
    (h : ∀ (t : Tag) (r : Request), s.request t = some r → r.line.global ≠ g) : s.clearMarks g = s := by
  have table : mapIndexed (fun _ (r : Option Request) =>
      r.map fun (x : Request) => if x.line.global = g then { x with mark := false } else x) s.table = s.table := by
    refine mapIndexed_eq_self _ _ fun i hi => ?_
    cases hr : s.table[i] with
    | none => rfl
    | some r => rw [Option.map_some, if_neg (h ⟨i, hi⟩ r hr)]
  unfold State.clearMarks
  rw [table]

theorem State.block_foldl_endErase (d : DieIx) (es : List EraseOp) (s : State) (g : GlobalBlock) :
    (es.foldl (fun s e => s.endErase d e) s).block g =
      if dieOf g = d ∧ ∃ e ∈ es, e.block = blockOf g then { s.block g with erase := .none } else s.block g := by
  induction es generalizing s with
  | nil => simp
  | cons e es ih =>
    rw [List.foldl_cons, ih, State.endErase, s.block_modifyBlock]
    by_cases hg : globalBlock d e.block = g
    · obtain ⟨hd, hb⟩ := (globalBlock_eq_iff _ _ _).1 hg
      have found : dieOf g = d ∧ ∃ o ∈ e :: es, o.block = blockOf g := ⟨hd, e, List.mem_cons_self, hb.symm⟩
      rw [if_pos hg, if_pos found, hg]
      split <;> rfl
    · rw [if_neg hg]
      have same : (dieOf g = d ∧ ∃ o ∈ e :: es, o.block = blockOf g) ↔ dieOf g = d ∧ ∃ o ∈ es, o.block = blockOf g := by
        refine and_congr_right fun hd => ?_
        simp only [List.mem_cons, exists_eq_or_imp, or_iff_right_iff_imp]
        exact fun hb => absurd ((globalBlock_eq_iff _ _ _).2 ⟨hd, hb.symm⟩) hg
      simp only [same]

theorem State.foldl_endErase_congr {s u : State} (d : DieIx) (es : List EraseOp) (blocks : u.blocks = s.blocks) :
    (es.foldl (fun s e => s.endErase d e) u).blocks = (es.foldl (fun s e => s.endErase d e) s).blocks := by
  induction es generalizing s u with
  | nil => exact blocks
  | cons e es ih => exact ih (by simp only [State.endErase, State.modifyBlock, State.setBlock, State.block, blocks])

/-- The erases of a die that went OFFLINE, with no request of the die left (R87, R123). -/
theorem State.foldl_failErase {s : State} {d : DieIx} (es : List EraseOp)
    (gone : ∀ (t : Tag) (r : Request), s.request t = some r → r.line.die ≠ d) : es.foldl (State.failErase d) s = { s with
      blocks := (es.foldl (fun s e => s.endErase d e) s).blocks
      completions := s.completions ++ es.map fun e => ⟨e.ticket, .erase, .failed, .die d, some (globalBlock d e.block)⟩ } := by
  induction es generalizing s with
  | nil => simp
  | cons e es ih =>
    have unmarked : (s.endErase d e).clearMarks (globalBlock d e.block) = s.endErase d e :=
      State.clearMarks_eq_self fun t r hr here => gone t r hr (by rw [← dieOf_global, here, dieOf_globalBlock])
    have step : State.failErase d s e = (s.endErase d e).complete (eraseCompletion d e .failed) := by
      unfold State.failErase
      rw [unmarked]
    rw [List.foldl_cons, step, ih (s := (s.endErase d e).complete (eraseCompletion d e .failed)) gone,
      State.foldl_endErase_congr (s := s.endErase d e)
        (u := (s.endErase d e).complete (eraseCompletion d e .failed)) d es rfl]
    simp only [List.map_cons, State.complete, eraseCompletion, List.append_assoc]
    rfl

end Sys2Proof.Machine
end

section
/-! OPERATION_LIMIT_EXPIRY: the die goes OFFLINE, in the order of R86 and R87 (section 4.8). -/

namespace Sys2Proof.Machine

open Sys2Proof

/-- The limit of an operation that runs, is being halted, or is a read (R85, R86). -/
theorem Die.limit_eq {x : Die} {d : DieIx} {kind : LimitKind} {due : Nat} {report : FaultBody}
    (h : (∃ e, x.state = .reading e due ∧ kind = .read ∧
        report = .dieTimeout .read d (some e.place.1) (some e.place.2)) ∨
      (∃ p, ((∃ guard, x.state = .programming p due guard) ∨ ∃ haltDue, x.state = .halting (.program p) due haltDue) ∧
        kind = .program ∧ report = .dieTimeout .program d (some p.block) (some p.line)) ∨
      (∃ e, ((∃ guard, x.state = .erasing e due guard) ∨ ∃ haltDue, x.state = .halting (.erase e) due haltDue) ∧
        kind = .erase ∧ report = .dieTimeout .erase d (some e.block) none) ∨
      (∃ p own, x.state = .halting (.program p) own due ∧ kind = .halt ∧
        report = .dieTimeout .halt d (some p.block) (some p.line)) ∨
      ∃ e own, x.state = .halting (.erase e) own due ∧ kind = .halt ∧
        report = .dieTimeout .halt d (some e.block) none) : x.limit d kind = some (due, report) := by
  unfold Die.limit
  rcases h with ⟨e, hs, rfl, rfl⟩ | ⟨p, ⟨guard, hs⟩ | ⟨haltDue, hs⟩, rfl, rfl⟩ |
    ⟨e, ⟨guard, hs⟩ | ⟨haltDue, hs⟩, rfl, rfl⟩ | ⟨p, own, hs, rfl, rfl⟩ | ⟨e, own, hs, rfl, rfl⟩ <;> rw [hs] <;> rfl

theorem Die.mem_unfinished (x : Die) (op : ArrayOp) : op ∈ x.unfinished ↔ op ∈ x.operations := by
  unfold Die.unfinished Die.operations
  cases x.state <;> simp only [List.mem_append] <;> exact or_comm

theorem Buffer.inDie_iff {b : Buffer} {d : DieIx} : b.inDie d = true ↔ ∃ l, b.line? = some l ∧ l.die = d := by
  unfold Buffer.inDie
  cases b.line? <;> simp

theorem State.isForDie_iff {s : State} {d : DieIx} {t : Tag} :
    s.isForDie d t = true ↔ ∃ r, s.request t = some r ∧ r.line.die = d := by
  unfold State.isForDie
  cases s.request t <;> simp

theorem flatMap_filter_eq {α β : Type} (l : List α) (p : α → Bool) (f : α → List β) :
    (l.filter p).flatMap f = l.flatMap fun x => if p x then f x else [] := by
  induction l with
  | nil => rfl
  | cons x l ih =>
    rw [List.filter_cons, List.flatMap_cons, ← ih]
    cases p x <;> rfl

/-- The blocks of the die as R86 and R87 leave them before the erases are settled. -/
def State.lostBlocks (s : State) (d : DieIx) : Vector BlockRecord 1024 :=
  mapIndexed (fun g b => if g / 256 = d.val then { b with holdList := [] } else b) (s.failUnfinished d).blocks

/-- The state in which the die is OFFLINE and the requests that waited on it are answered, its buffers not yet
discarded. -/
def State.faulted (s : State) (d : DieIx) (report : FaultBody) : State :=
  { s.recorded [report] with
    table := s.tableWithout (s.faultedFirst d)
    responses := s.responses ++ (s.faultedFirst d).map fun t => ⟨t, .fault .dieOffline, none⟩
    blocks := s.lostBlocks d
    waitList := s.waitList.filter fun t => !s.isForDie d t
    dies := s.dies.set d { s.die d with
      state := .offline none, readQueue := (s.die d).readQueue.filter fun e => e.tag?.isNone, context := []
      interleave := 0 } }

/-- The first steps of a die's going OFFLINE (R86, R87). -/
theorem State.goOffline_eq {s : State} {d : DieIx} {report : FaultBody} (nodup : (s.faultedFirst d).Nodup)
    (out : ∀ t ∈ s.faultedFirst d, ∃ r, s.request t = some r) : s.goOffline d report =
      (((s.die d).admittedErases.foldl (State.failErase d)
        (((s.faulted d report).discardAll .dieOffline fun _ b => b.inDie d).modifyDie d fun y =>
          { y with readQueue := [], workQueue := [] })).afterFree) := by
  obtain ⟨v, hv⟩ : ∃ v, v = (s.recorded [report]).failUnfinished d := ⟨_, rfl⟩
  have shape : v = { s.recorded [report] with blocks := (s.failUnfinished d).blocks } := by
    rw [hv, State.failUnfinished_eq]
    exact congrArg (fun bs => ({ s.recorded [report] with blocks := bs } : State)) (Vector.ext fun g hg =>
      (State.block_failUnfinished (s.recorded [report]) d ⟨g, hg⟩).trans (s.block_failUnfinished d ⟨g, hg⟩).symm)
  have block (g : GlobalBlock) : (v.block g).holdList = (s.block g).holdList := by
    rw [hv, State.block_failUnfinished]
    split <;> rfl
  have first : v.faultedFirst d = s.faultedFirst d := by
    unfold State.faultedFirst
    rw [State.heldForDie_congr d block, shape]
    rfl
  have waiting := State.faultWaiting_eq (s := v) (d := d) (by rw [first]; exact nodup)
    (by rw [first, shape]; exact out)
  unfold State.goOffline
  simp only [State.writeFault_eq_recorded]
  rw [← hv, waiting, first, shape]
  rfl

/-- The LINE_LOST records that the die's going OFFLINE writes, in increasing index of the buffers (R87). -/
def State.linesLost (s : State) (d : DieIx) : List FaultBody :=
  (bufferIndices.filter fun i => (s.buffer i).inDie d).filterMap fun i => (s.buffer i).lossRecord .dieOffline

/-- The buffers of the die are discarded, and nothing is left in its queues (R87). -/
theorem State.discardAll_faulted {s : State} {d : DieIx} {report : FaultBody} (nodup : (s.waitingOnDie d).Nodup)
    (onDie : ∀ t ∈ s.waitingOnDie d, ∃ r, s.request t = some r ∧ r.line.die = d) :
    (((s.faulted d report).discardAll .dieOffline fun _ b => b.inDie d).modifyDie d fun y =>
      { y with readQueue := [], workQueue := [] }) = { s.recorded (report :: s.linesLost d) with
        table := s.tableWithout (s.waitingOnDie d)
        responses := s.responses ++ (s.waitingOnDie d).map fun t => ⟨t, .fault .dieOffline, none⟩
        waitList := s.waitList.filter fun t => !s.isForDie d t
        buffers := ((bufferIndices.filter fun i => (s.buffer i).inDie d).foldl State.freeBuffer s).buffers
        flushes := ((bufferIndices.filter fun i => (s.buffer i).inDie d).foldl State.freeBuffer s).flushes
        blocks := s.lostBlocks d
        dies := s.dies.set d ⟨.offline none, [], [], [], 0⟩ } := by
  obtain ⟨v, hv⟩ : ∃ v, v = s.faulted d report := ⟨_, rfl⟩
  obtain ⟨is, his⟩ : ∃ is, is = bufferIndices.filter fun i => (s.buffer i).inDie d := ⟨_, rfl⟩
  have buffer (j : BufIx) : v.buffer j = s.buffer j := by rw [hv]; rfl
  have split : s.waitingOnDie d = s.faultedFirst d ++ is.flatMap fun i => (s.buffer i).held := by
    rw [his, flatMap_filter_eq]
    rfl
  rw [split] at nodup onDie
  obtain ⟨-, heldNodup, apart⟩ := List.nodup_append.1 nodup
  have heldOf : (is.flatMap fun i => (v.buffer i).held) = is.flatMap fun i => (s.buffer i).held := by simp only [buffer]
  have log : v.recorded [] = v := by
    rw [hv]
    exact State.recorded_nil_of_recorded (s := s) (bs := [report]) rfl rfl
  have discards := State.foldl_discard (c := .dieOffline) (is := is) (d := d) log
    (by rw [his]; exact List.Nodup.filter _ (by decide))
    (fun i hi => by
      rw [buffer]
      rw [his] at hi
      exact Buffer.inDie_iff.1 (List.mem_filter.1 hi).2)
    (by rw [heldOf]; exact heldNodup)
    (fun t ht => by
      rw [heldOf] at ht
      have kept : v.request t = s.request t := by
        refine (State.request_of_tableWithout (s := s) (ts := s.faultedFirst d) (by rw [hv]; rfl) t).trans (if_neg ?_)
        exact fun k => apart t k t ht rfl
      rw [kept]
      exact onDie t (List.mem_append_right _ ht))
  have all : (v.discardAll .dieOffline fun _ b => b.inDie d) = v.discarded .dieOffline d is := by
    rw [← discards]
    unfold State.discardAll
    simp only [buffer]
    rw [his]
  have losses : (is.filterMap fun i => (v.buffer i).lossRecord .dieOffline) = s.linesLost d := by
    simp only [buffer]
    rw [his]
    rfl
  have emptied : { (v.discarded .dieOffline d is).die d with readQueue := [], workQueue := [] } =
      (⟨.offline none, [], [], [], 0⟩ : Die) := by
    have die := State.die_of_dies (s := s) (u := v) (by rw [hv]; rfl)
    rw [State.die_discarded, die]
    rfl
  have freed := State.foldl_freeBuffer_congr (s := s) (u := v) is (by rw [hv]; rfl) (by rw [hv]; rfl)
  have records := s.recorded_append [report] (s.linesLost d)
  rw [List.singleton_append] at records
  rw [← hv, all, ← his, split, ← records]
  refine (congrArg ((v.discarded .dieOffline d is).setDie d) emptied).trans ?_
  simp only [State.setDie, State.discarded, losses, heldOf, DiscardCause.answered, freed.1, freed.2]
  rw [hv]
  simp only [State.faulted, State.tableWithout, Vector.set_set, List.foldl_append, List.map_append, List.append_assoc]
  rfl

theorem State.request_gone {s u : State} {d : DieIx} (table : u.table = s.tableWithout (s.waitingOnDie d))
    (waiting : ∀ t, s.isForDie d t = true ↔ t ∈ s.waitingOnDie d) (t : Tag) :
    u.request t = if s.isForDie d t then none else s.request t := by
  rw [State.request_of_tableWithout table]
  simp only [waiting]

/-- A block of the die that went OFFLINE: FAILED where an operation of the die was unfinished in it, under no erase that
was admitted for it, and with no request held (R86, R87). -/
theorem State.block_lostBlocks {s v : State} {d : DieIx} (blocks : v.blocks = s.lostBlocks d) (g : GlobalBlock) :
    ((s.die d).admittedErases.foldl (fun s e => s.endErase d e) v).block g =
      if dieOf g = d then
        ⟨(s.block g).lock, if (s.die d).operations.any fun op => op.block == blockOf g then .failed else (s.block g).health,
          if ∃ e ∈ (s.die d).admittedErases, e.block = blockOf g then .none else (s.block g).erase,
          if (s.die d).operations.any fun op => op.block == blockOf g then false else (s.block g).clean, []⟩
      else s.block g := by
  have before : v.block g = if dieOf g = d then { (s.failUnfinished d).block g with holdList := [] }
      else (s.failUnfinished d).block g := by
    rw [← State.block_faultWaiting_blocks]
    unfold State.block
    rw [blocks]
    rfl
  have unfinished : (∃ op ∈ (s.die d).unfinished, op.block = blockOf g) ↔
      ((s.die d).operations.any fun op => op.block == blockOf g) = true := by
    simp only [Die.mem_unfinished, List.any_eq_true, beq_iff_eq]
  rw [State.block_foldl_endErase, before, State.block_failUnfinished]
  by_cases hd : dieOf g = d
  · simp only [hd, true_and, if_true, unfinished]
    split <;> split <;> rfl
  · simp only [hd, false_and, if_false]

/-- The die is OFFLINE and everything that waits on it is settled (R86, R87). -/
theorem State.goOffline_settled {s : State} {d : DieIx} {report : FaultBody} (nodup : (s.waitingOnDie d).Nodup)
    (waiting : ∀ t, s.isForDie d t = true ↔ t ∈ s.waitingOnDie d)
    (writes : ∀ t ∈ s.waitList, s.isWrite t = true → s.isForDie d t = true) (pool : s.PoolLaw) :
    let gone (i : BufIx) : Bool := (s.buffer i).inDie d
    let u := s.goOffline d report
    u = { s.recorded (report :: s.linesLost d) with
      table := u.table
      responses := s.responses ++ (s.waitingOnDie d).map fun t => ⟨t, .fault .dieOffline, none⟩
      waitList := s.waitList.filter fun t => !s.isForDie d t
      buffers := u.buffers, flushes := u.flushes, blocks := u.blocks
      dies := s.dies.set d ⟨.offline none, [], [], [], 0⟩
      completions := s.completions
        ++ ((s.die d).admittedErases.map fun e => ⟨e.ticket, .erase, .failed, .die d, some (globalBlock d e.block)⟩)
        ++ (s.flushes.filter fun f => f.members.all gone).map fun f => ⟨f.ticket, .flush, .done, f.scope, none⟩ } ∧
    (∀ t, u.request t = if s.isForDie d t then none else s.request t) ∧
    (∀ j, u.buffer j = if gone j then .free else s.buffer j) ∧
    u.flushes = (s.flushes.map fun f => { f with members := f.members.filter fun i => !gone i }).filter
      (fun f => f.members ≠ []) ∧
    ∀ g, u.block g =
      if dieOf g = d then
        ⟨(s.block g).lock, if (s.die d).operations.any fun op => op.block == blockOf g then .failed else (s.block g).health,
          if ∃ e ∈ (s.die d).admittedErases, e.block = blockOf g then .none else (s.block g).erase,
          if (s.die d).operations.any fun op => op.block == blockOf g then false else (s.block g).clean, []⟩
      else s.block g := by
  intro gone u
  have onDie : ∀ t ∈ s.waitingOnDie d, ∃ r, s.request t = some r ∧ r.line.die = d :=
    fun t ht => State.isForDie_iff.1 ((waiting t).2 ht)
  obtain ⟨firstNodup, -, -⟩ := List.nodup_append.1 nodup
  have firstOut : ∀ t ∈ s.faultedFirst d, ∃ r, s.request t = some r :=
    fun t ht => (onDie t (List.mem_append_left _ ht)).imp fun _ h => h.1
  obtain ⟨v, hv⟩ : ∃ v, v = ((s.faulted d report).discardAll .dieOffline fun _ b => b.inDie d).modifyDie d fun y =>
      { y with readQueue := [], workQueue := [] } := ⟨_, rfl⟩
  have shape := hv
  rw [State.discardAll_faulted nodup onDie] at shape
  have vRequest (t : Tag) : v.request t = if s.isForDie d t then none else s.request t :=
    State.request_gone (by rw [shape]) waiting t
  have requestGone (t : Tag) (r : Request) (hr : v.request t = some r) : r.line.die ≠ d := fun hd => by
    rw [vRequest] at hr
    split at hr
    · cases hr
    · next other => exact other (State.isForDie_iff.2 ⟨r, hr, hd⟩)
  obtain ⟨w, hw⟩ : ∃ w, w = (s.die d).admittedErases.foldl (State.failErase d) v := ⟨_, rfl⟩
  have erased := hw
  rw [State.foldl_failErase _ requestGone] at erased
  have ends : u = w.afterFree := by
    rw [hw, hv]
    exact State.goOffline_eq firstNodup firstOut
  have wRequest (t : Tag) : w.request t = if s.isForDie d t then none else s.request t := by
    rw [← vRequest, erased]
    rfl
  have nobody : w.noWriteWaits := fun t ht => by
    have listed : t ∈ s.waitList.filter fun t => !s.isForDie d t := by
      rw [erased, shape] at ht
      exact ht
    obtain ⟨there, other⟩ := List.mem_filter.1 listed
    have same : w.request t = s.request t := by
      rw [wRequest, if_neg (by simpa using other)]
    rw [State.isWrite_congr same]
    exact Bool.eq_false_iff.2 fun k => by simp [writes t there k] at other
  obtain ⟨buffers, flushes⟩ := State.freeAll_spec (s := s) (gone := gone)
    (is := bufferIndices.filter fun i => (s.buffer i).inDie d)
    (fun j => by simp [gone, State.mem_bufferIndices])
    (fun j p hp k => by
      have line := (pool.2 j p hp).2
      simp only [gone, Buffer.inDie] at k ⊢
      rw [← line]
      exact k)
  have after : u = { w with
      flushes := (s.flushes.map fun f => { f with members := f.members.filter fun i => !gone i }).filter
        fun f => f.members ≠ []
      completions := w.completions ++
        (s.flushes.filter fun f => f.members.all gone).map fun f => ⟨f.ticket, .flush, .done, f.scope, none⟩ } := by
    rw [ends, State.afterFree_idle nobody, State.completeFlushes_without (s := s) gone]
    rw [erased, shape]
    exact flushes
  refine ⟨?_, fun t => ?_, fun j => ?_, by rw [after], fun g => ?_⟩
  · rw [after, erased, shape]
    rfl
  · rw [← wRequest, after]
    rfl
  · rw [← buffers, after, erased, shape]
    rfl
  · rw [← State.block_lostBlocks (s := s) (v := v) (by rw [shape]), after, erased]
    rfl

/-- Settles O37: the requests, the buffers, the erases and the flushes are settled one kind after another, and the
OFFLINE die starts nothing. -/
theorem operationLimitTakesDieOffline : Obligations.OperationLimitTakesDieOffline := by
  unfold Obligations.OperationLimitTakesDieOffline
  intro d kind due report s x gone failed lost runs others pool nodup waiting writes
  obtain ⟨shape, request, buffer, flushes, block⟩ :=
    State.goOffline_settled (s := s.quiet.reach due) (report := report) nodup waiting writes pool
  obtain ⟨u, hu⟩ : ∃ u, u = (s.quiet.reach due).goOffline d report := ⟨_, rfl⟩
  rw [← hu] at shape request buffer flushes block
  have expires : exec (.operationLimitExpiry d kind) s = .next u.settle := by
    have limit : (s.die d).limit d kind = some (due, report) := Die.limit_eq runs
    simp only [exec, execOperationLimitExpiry, limit]
    rw [hu]
  have dies : u.dies = s.dies.set d ⟨.offline none, [], [], [], 0⟩ := by rw [shape]; rfl
  have losses : (s.quiet.reach due).linesLost d = lost := by
    refine (List.filterMap_filter ..).trans (List.filterMap_congr fun i _ => ?_)
    have same : (s.quiet.reach due).buffer i = s.buffer i := rfl
    unfold Buffer.inDie Buffer.lossRecord
    rw [same]
    cases (s.buffer i).line? with
    | none => rfl
    | some l =>
      cases (s.buffer i).body? with
      | none => exact ite_self _
      | some b => simp [DiscardCause.loss]
  refine ⟨u, by rw [expires, State.settle_of_atRest (State.atRest_of_dies others dies rfl)], ?_, request, buffer, flushes,
    block⟩
  rw [losses] at shape
  exact shape

end Sys2Proof.Machine
end

section
/-! Posting several buffers in increasing open number: what ERASE and FLUSH do to the buffers they post and to the work
queues (sections 1.3, 1.6 and 6.2). -/

namespace Sys2Proof.Machine

open Sys2Proof

/-! ## What the array side touches -/

/-- Nothing but the buffers, the blocks, the dies and the outputs differs. -/
def State.ArrayStep (s u : State) : Prop :=
  u = { s with buffers := u.buffers, blocks := u.blocks, dies := u.dies, out := u.out }

theorem State.ArrayStep.refl (s : State) : s.ArrayStep s := rfl

theorem State.ArrayStep.trans {s u v : State} (h : s.ArrayStep u) (k : u.ArrayStep v) : s.ArrayStep v := by
  unfold State.ArrayStep at h k ⊢
  rw [k, h]

theorem State.ArrayStep.foldl {α : Type} (f : State → α → State) (h : ∀ s a, State.ArrayStep s (f s a)) (as : List α)
    (s : State) : s.ArrayStep (as.foldl f s) := by
  induction as generalizing s with
  | nil => exact .refl s
  | cons a as ih => exact (h s a).trans (ih _)

theorem State.arrayStep_startProgram (s : State) (d : DieIx) (i : BufIx) : s.ArrayStep (s.startProgram d i) := by
  unfold State.startProgram
  split <;> rfl

theorem State.arrayStep_sendContinue (s : State) (d : DieIx) : s.ArrayStep (s.sendContinue d) := by
  unfold State.sendContinue
  split <;> rfl

theorem State.arrayStep_decide (s : State) (d : DieIx) : s.ArrayStep (s.decide d) := by
  unfold State.decide
  split
  · exact (s.arrayStep_startProgram d _).trans rfl
  · exact s.arrayStep_sendContinue d

theorem State.arrayStep_serveWork (s : State) (d : DieIx) : s.ArrayStep (s.serveWork d) := by
  unfold State.serveWork
  split
  · exact .refl s
  · split
    · exact .refl s
    · exact s.arrayStep_startProgram d _
  · split
    · split
      · exact s.arrayStep_startProgram d _
      · exact .refl s
    · rfl

theorem State.arrayStep_arbitrate (s : State) (d : DieIx) : s.ArrayStep (s.arbitrate d) := by
  unfold State.arbitrate
  split
  · rfl
  · exact s.arrayStep_serveWork d
  · rfl
  · unfold State.startHoldOff
    split
    · exact s.arrayStep_decide d
    · rfl
  · rfl
  · rfl
  · rfl

theorem State.arrayStep_settle (s : State) : s.ArrayStep s.settle := .foldl _ State.arrayStep_arbitrate _ s

/-! ## One buffer posted -/

theorem State.arrayStep_post (s : State) (i : BufIx) : s.ArrayStep (s.post i) := by
  unfold State.post
  split <;> rfl

theorem State.buffer_post (s : State) (i j : BufIx) :
    (s.post i).buffer j = if i = j then (s.buffer j).asPosted else s.buffer j := by
  unfold State.post
  split
  · next l n body p due hb =>
    simp only [State.buffer_modifyDie, State.buffer_setBuffer]
    split
    · next e => rw [← e, hb]; rfl
    · rfl
  · next other =>
    split
    · next e =>
      subst e
      cases hb : s.buffer i with
      | filling l n body p due => exact absurd hb (other l n body p due)
      | _ => rfl
    · rfl

@[simp] theorem State.blocks_post (s : State) (i : BufIx) : (s.post i).blocks = s.blocks := by
  unfold State.post
  split <;> rfl

@[simp] theorem State.block_post (s : State) (i : BufIx) (g : GlobalBlock) : (s.post i).block g = s.block g := by
  rw [State.block, State.blocks_post]
  rfl

@[simp] theorem State.out_post (s : State) (i : BufIx) : (s.post i).out = s.out := by
  unfold State.post
  split <;> rfl

@[simp] theorem Buffer.line?_asPosted (b : Buffer) : b.asPosted.line? = b.line? := by cases b <;> rfl

@[simp] theorem Buffer.held_asPosted (b : Buffer) : b.asPosted.held = b.held := by cases b <;> rfl

@[simp] theorem Buffer.inBlock_asPosted (b : Buffer) (g : GlobalBlock) : b.asPosted.inBlock g = b.inBlock g := by
  unfold Buffer.inBlock
  rw [b.line?_asPosted]

@[simp] theorem Buffer.inDie_asPosted (b : Buffer) (d : DieIx) : b.asPosted.inDie d = b.inDie d := by
  unfold Buffer.inDie
  rw [b.line?_asPosted]

@[simp] theorem Buffer.isFilling_asPosted (b : Buffer) : b.asPosted.isFilling = false := by cases b <;> rfl

@[simp] theorem Buffer.asPosted_asPosted (b : Buffer) : b.asPosted.asPosted = b.asPosted := by cases b <;> rfl

/-! ## Buffers posted one after another -/

theorem State.buffer_foldl_post (is : List BufIx) (s : State) (j : BufIx) :
    (is.foldl State.post s).buffer j = if j ∈ is then (s.buffer j).asPosted else s.buffer j := by
  induction is generalizing s with
  | nil => rfl
  | cons i is ih =>
    rw [List.foldl_cons, ih, State.buffer_post]
    by_cases hj : i = j
    · simp [hj]
    · simp [hj, Ne.symm hj]

@[simp] theorem State.blocks_foldl_post (is : List BufIx) (s : State) : (is.foldl State.post s).blocks = s.blocks := by
  induction is generalizing s with
  | nil => rfl
  | cons i is ih => rw [List.foldl_cons, ih, State.blocks_post]

@[simp] theorem State.out_foldl_post (is : List BufIx) (s : State) : (is.foldl State.post s).out = s.out := by
  induction is generalizing s with
  | nil => rfl
  | cons i is ih => rw [List.foldl_cons, ih, State.out_post]

theorem State.fillingInOrder_nodup {s : State} {p : Buffer → Bool} {is : List BufIx} (h : s.fillingInOrder p is) :
    is.Nodup := h.2.imp fun hlt e => absurd hlt (by rw [e]; exact Nat.lt_irrefl _)

/-- With the first of the buffers posted, the others are those still to post. -/
theorem State.fillingInOrder_post {s : State} {p : Buffer → Bool} {i : BufIx} {is : List BufIx}
    (h : s.fillingInOrder p (i :: is)) : (s.post i).fillingInOrder p is := by
  obtain ⟨hnew, -⟩ := List.nodup_cons.mp (State.fillingInOrder_nodup h)
  obtain ⟨mem, order⟩ := h
  have other {j : BufIx} (hj : i ≠ j) : (s.post i).buffer j = s.buffer j := by rw [State.buffer_post, if_neg hj]
  refine ⟨fun j => ?_, ?_⟩
  · by_cases hj : i = j
    · subst hj
      rw [State.buffer_post, if_pos rfl]
      simp [hnew]
    · rw [other hj, ← mem j]
      simp [Ne.symm hj]
  · refine (List.pairwise_cons.1 order).2.imp_of_mem fun {a b} ha hb hlt => ?_
    rwa [other fun e => hnew (e ▸ ha), other fun e => hnew (e ▸ hb)]

theorem State.postEach_eq {s : State} {p : Buffer → Bool} {is : List BufIx} {fuel : Nat} (h : s.fillingInOrder p is)
    (enough : is.length ≤ fuel) : State.postEach p fuel s = is.foldl State.post s := by
  induction is generalizing s fuel with
  | nil =>
    have found := State.lowestFilling_eq_none (s := s) (p := p) (fun i hi => by simpa using (h.1 i).2 hi) bufferIndices
    cases fuel with
    | zero => rfl
    | succ fuel => rw [State.postEach, found]; rfl
  | cons i is ih =>
    have found : s.lowestFilling p bufferIndices = some i :=
      State.lowestFilling_eq_some ((h.1 i).1 List.mem_cons_self) fun j hne hj =>
        (List.pairwise_cons.1 h.2).1 j ((List.mem_cons.1 ((h.1 j).2 hj)).resolve_left hne)
    cases fuel with
    | zero => cases enough
    | succ fuel =>
      rw [State.postEach, found]
      exact ih (State.fillingInOrder_post h) (Nat.le_of_succ_le_succ enough)

/-- The FILLING buffers that satisfy `p` are posted in increasing open number (R15, R27). -/
theorem State.postAll_eq {s : State} {p : Buffer → Bool} {is : List BufIx} (h : s.fillingInOrder p is) :
    s.postAll p = is.foldl State.post s :=
  State.postEach_eq h (by simpa using (State.fillingInOrder_nodup h).length_le_card)

theorem State.arrayStep_postAll (s : State) (p : Buffer → Bool) : s.ArrayStep (s.postAll p) := by
  unfold State.postAll
  generalize 12 = fuel
  induction fuel generalizing s with
  | zero => exact .refl s
  | succ fuel ih =>
    unfold State.postEach
    split
    · exact (s.arrayStep_post _).trans (ih _)
    · exact .refl s

/-- Posting changes no line, no held list and no block. -/
theorem State.buffer_postAll (s : State) (p : Buffer → Bool) (j : BufIx) :
    ((s.postAll p).buffer j).line? = (s.buffer j).line? ∧ ((s.postAll p).buffer j).held = (s.buffer j).held := by
  unfold State.postAll
  generalize 12 = fuel
  induction fuel generalizing s with
  | zero => exact ⟨rfl, rfl⟩
  | succ fuel ih =>
    unfold State.postEach
    split
    · next i _ =>
      rw [(ih (s.post i)).1, (ih (s.post i)).2, State.buffer_post]
      split <;> simp
    · exact ⟨rfl, rfl⟩

end Sys2Proof.Machine
end

section
/-! FLUSH: the buffers in its scope are tracked, and the FILLING ones join their dies' work queues (section 1.6). -/

namespace Sys2Proof.Machine

open Sys2Proof

/-! ## The scope of a FLUSH -/

theorem State.flushScope_some {s : State} {scope : Byte} {c : FlushScope}
    (h : scope = 0xFF ∧ c = .all ∨ ∃ d : DieIx, scope.toNat = d.val ∧ d.val < s.fittedDies ∧ c = .die d) :
    s.flushScope scope = some c := by
  unfold State.flushScope FlushScope.ofByte
  rcases h with ⟨rfl, rfl⟩ | ⟨d, hd, hfit, rfl⟩
  · rfl
  · have small : scope.toNat < 4 := hd ▸ d.isLt
    have notAll : scope ≠ 0xFF := fun e => absurd small (by rw [e]; decide)
    have same : (⟨scope.toNat, small⟩ : DieIx) = d := Fin.ext hd
    rw [if_neg notAll, dif_pos small, same]
    exact if_pos ((s.fitted_iff d).2 hfit)

theorem State.flushScope_none {s : State} {scope : Byte} (notAll : scope ≠ 0xFF) (h : s.fittedDies ≤ scope.toNat) :
    s.flushScope scope = none := by
  unfold State.flushScope FlushScope.ofByte
  rw [if_neg notAll]
  by_cases small : scope.toNat < 4
  · rw [dif_pos small]
    exact if_neg fun hf => absurd ((s.fitted_iff _).1 hf) (Nat.not_lt.2 h)
  · rw [dif_neg small]

/-! ## Entries at the tail -/

theorem State.die_post_tail {s : State} {i : BufIx} {l : LineAddr} (filling : (s.buffer i).isFilling = true)
    (line : (s.buffer i).line? = some l) (unerased : (s.block l.global).erase ≠ .pending) (d : DieIx) :
    (s.post i).die d = { s.die d with
      workQueue := (s.die d).workQueue ++ programEntries ([i].filter fun j => (s.buffer j).inDie d) } := by
  obtain ⟨k, n, body, p, due, hb⟩ := (s.buffer i).isFilling_iff.1 filling
  have own : k = l := by
    rw [hb] at line
    exact Option.some.inj line
  subst own
  have posted := State.post_tail hb fun k => absurd k unerased
  by_cases hd : k.die = d
  · subst hd
    have here : [i].filter (fun j => (s.buffer j).inDie k.die) = [i] :=
      List.filter_cons_of_pos (Buffer.inDie_iff.2 ⟨k, line, rfl⟩)
    rw [here]
    exact State.die_of_dies (s := s) (by rw [posted]; rfl)
  · have elsewhere : [i].filter (fun j => (s.buffer j).inDie d) = [] := by
      refine List.filter_cons_of_neg fun here => hd ?_
      obtain ⟨m, hm, hd'⟩ := Buffer.inDie_iff.1 here
      rw [line] at hm
      cases hm
      exact hd'
    have other : (s.post i).die d = s.die d := by
      have set := s.die_setDie k.die d
        { s.die k.die with workQueue := (s.die k.die).workQueue ++ [.program i] }
      rw [if_neg hd] at set
      rw [← set, posted]
      rfl
    rw [elsewhere, other]
    simp [programEntries]

theorem State.die_foldl_post_tail {s : State} {is : List BufIx} (nodup : is.Nodup)
    (filling : ∀ i ∈ is, (s.buffer i).isFilling = true)
    (unerased : ∀ i ∈ is, ∀ l, (s.buffer i).line? = some l → (s.block l.global).erase ≠ .pending) (d : DieIx) :
    (is.foldl State.post s).die d = { s.die d with
      workQueue := (s.die d).workQueue ++ programEntries (is.filter fun i => (s.buffer i).inDie d) } := by
  induction is generalizing s with
  | nil => simp [programEntries]
  | cons i is ih =>
    obtain ⟨hnew, nodup⟩ := List.nodup_cons.mp nodup
    have own := filling i List.mem_cons_self
    obtain ⟨l, hl⟩ : ∃ l, (s.buffer i).line? = some l := by
      obtain ⟨l, n, body, p, due, hb⟩ := (s.buffer i).isFilling_iff.1 own
      exact ⟨l, by rw [hb]; rfl⟩
    have same {j : BufIx} (hj : j ∈ is) : (s.post i).buffer j = s.buffer j := by
      have hne : i ≠ j := fun e => hnew (e ▸ hj)
      rw [State.buffer_post, if_neg hne]
    have later : (is.filter fun j => ((s.post i).buffer j).inDie d) = is.filter fun j => (s.buffer j).inDie d :=
      List.filter_congr fun j hj => by rw [same hj]
    rw [List.foldl_cons, ih nodup (fun j hj => by rw [same hj]; exact filling j (List.mem_cons_of_mem _ hj))
      fun j hj m hm => by
        rw [same hj] at hm
        rw [State.block_post]
        exact unerased j (List.mem_cons_of_mem _ hj) m hm,
      later, State.die_post_tail own hl (unerased i List.mem_cons_self l hl)]
    simp only [programEntries, List.append_assoc, ← List.map_append, ← List.filter_append, List.singleton_append]

/-! ## The tracking record -/

/-- The flush of a list of members is complete at once where the list is empty (R28). -/
theorem State.completeFlushes_tracking {s u : State} {tk : Ticket} {c : FlushScope} {members : List BufIx}
    (flushesOpen : s.flushesOpen) (h : u.flushes = s.flushes ++ [⟨tk, c, members⟩]) : u.completeFlushes = { u with
      flushes := if members = [] then s.flushes else s.flushes ++ [⟨tk, c, members⟩]
      completions := if members = [] then u.completions ++ [⟨tk, .flush, .done, c, none⟩] else u.completions } := by
  have kept : (s.flushes.filter fun f => !f.members.isEmpty) = s.flushes :=
    List.filter_eq_self.2 fun f hf => by simpa using flushesOpen f hf
  have ended : (s.flushes.filter fun f => f.members.isEmpty) = [] :=
    List.filter_eq_nil_iff.2 fun f hf => by simpa using flushesOpen f hf
  unfold State.completeFlushes
  rw [h, List.filter_append, List.filter_append, kept, ended]
  cases members with
  | nil => simp [FlushRecord.completion]
  | cons i is => simp

/-- Buffers posted one after another change the buffers and the dies alone. -/
theorem State.foldl_post_eq (is : List BufIx) (s : State) : is.foldl State.post s = { s with
    buffers := (is.foldl State.post s).buffers, dies := (is.foldl State.post s).dies } := by
  have step := State.ArrayStep.foldl State.post State.arrayStep_post is s
  unfold State.ArrayStep at step
  rwa [State.blocks_foldl_post, State.out_foldl_post] at step

/-- The state that an admitted FLUSH leaves (R27, R28, R162). -/
theorem State.admitFlush_eq {s : State} {c : FlushScope} {tk : Ticket} {is : List BufIx} (flushesOpen : s.flushesOpen)
    (order : s.fillingInOrder c.takes is)
    (unerased : ∀ i ∈ is, ∀ l, (s.buffer i).line? = some l → (s.block l.global).erase ≠ .pending) :
    let members := bufferIndices.filter fun i => c.takes (s.buffer i)
    let u := s.admitFlush c tk
    u = { s with
      ticketCounter := tk + 1
      buffers := u.buffers, dies := u.dies
      flushes := if members = [] then s.flushes else s.flushes ++ [⟨tk, c, members⟩]
      completions := if members = [] then s.completions ++ [⟨tk, .flush, .done, c, none⟩] else s.completions } ∧
    (∀ j, u.buffer j = if j ∈ is then (s.buffer j).asPosted else s.buffer j) ∧
    ∀ d, u.die d = { s.die d with
      workQueue := (s.die d).workQueue ++ programEntries (is.filter fun i => (s.buffer i).inDie d) } := by
  intro members u
  obtain ⟨v, hv⟩ : ∃ v : State, v = { s.giveTicket tk with flushes := s.flushes ++ [⟨tk, c, members⟩] } := ⟨_, rfl⟩
  obtain ⟨w, hw⟩ : ∃ w, w = is.foldl State.post v := ⟨_, rfl⟩
  have shape := State.foldl_post_eq is v
  rw [← hw] at shape
  have posted : v.postAll c.takes = w := by
    rw [hw]
    exact State.postAll_eq (by rw [hv]; exact order)
  have ends : u = w.completeFlushes := by
    rw [← posted, hv]
    rfl
  rw [State.completeFlushes_tracking (s := s) (tk := tk) (c := c) (members := members) flushesOpen
    (by rw [shape, hv])] at ends
  refine ⟨?_, fun j => ?_, fun d => ?_⟩
  · rw [ends, shape, hv]
    rfl
  · have buffer := State.buffer_foldl_post is v j
    rw [← hw] at buffer
    rw [ends]
    refine buffer.trans ?_
    rw [hv]
    rfl
  · have die := State.die_foldl_post_tail (s := v) (State.fillingInOrder_nodup order)
      (by rw [hv]; exact fun i hi => ((order.1 i).1 hi).1) (by rw [hv]; exact unerased) d
    rw [← hw] at die
    rw [ends]
    refine die.trans ?_
    rw [hv]
    rfl

/-- Settles O51: the FILLING members join their dies' work queues in increasing open number, and with the dies at rest
nothing starts. -/
theorem flushTracksItsBuffers : Obligations.FlushTracksItsBuffers := by
  unfold Obligations.FlushTracksItsBuffers
  intro scope s h running
  have action : actionOf (.flush scope) s.quiet = State.flush scope s.quiet :=
    State.unlessBusy_running (s := s.quiet) running
  refine ⟨fun c takes => ?_, fun notAll outside => ?_⟩
  · intro members
    have inScope : s.quiet.flushScope scope = some c := State.flushScope_some takes
    refine ⟨fun room flushesOpen is order => ?_, fun full => ?_⟩
    · intro queued unerased atRest
      obtain ⟨u, hu⟩ : ∃ u, u = s.quiet.admitFlush c s.nextTicket := ⟨_, rfl⟩
      obtain ⟨shape, buffer, die⟩ :=
        State.admitFlush_eq (s := s.quiet) (tk := s.nextTicket) flushesOpen order unerased
      rw [← hu] at shape buffer die
      have notFull : ¬ s.quiet.ticketSpaceFull = true := by
        rw [State.ticketSpaceFull_iff]
        exact Nat.not_le.2 room
      have acts : State.flush scope s.quiet = (u, acceptedWith s.nextTicket) := by
        have settled : u.settle = u := State.settle_of_atRest fun d => by rw [die]; exact atRest d
        rw [State.flush, inScope]
        simp only [if_neg notFull]
        rw [show s.quiet.nextTicket = s.nextTicket from rfl, ← hu, settled]
      refine ⟨s.nextTicket, _, s.nextTicket_not_mem room, s.nextTicket_of_free,
        exec_of_completing (c := .flush scope) h nofun, ?_, ?_, ?_⟩
      · rw [action, acts, shape]
        rfl
      · rw [action, acts]
        exact buffer
      · rw [action, acts]
        exact die
    · refine exec_of_answer (c := .flush scope) h nofun (action.trans ?_)
      rw [State.flush, inScope]
      exact if_pos ((State.ticketSpaceFull_iff _).2 full)
  · refine exec_of_answer (c := .flush scope) h nofun (action.trans ?_)
    rw [State.flush, State.flushScope_none (s := s.quiet) notAll outside]
    rfl

end Sys2Proof.Machine
end

section
/-! ERASE admitted: the marks it gives, the buffers of its block posted ahead of its entry, and what its die starts
(sections 1.3, 4.6 and 6.2). -/

namespace Sys2Proof.Machine

open Sys2Proof

/-! ## Pre-erase marks -/

/-- The request waits for a buffer or for a base load, for a line of the block (R40). -/
def State.waitsForErase (s : State) (g : GlobalBlock) (t : Tag) : Bool :=
  (s.waitList.contains t && s.isForBlock g t) || (s.heldOfBlock g).contains t

theorem State.request_giveMarks (s : State) (g : GlobalBlock) (t : Tag) : (s.giveMarks g).request t =
    if s.waitsForErase g t then (s.request t).map fun r => { r with mark := true } else s.request t := by
  have marked : ((s.heldOfBlock g ++ s.waitList.filter (s.isForBlock g)).any fun m => m.val == t.val) =
      s.waitsForErase g t := by
    rw [Bool.eq_iff_iff]
    simp only [State.waitsForErase, List.any_eq_true, List.mem_append, List.mem_filter, beq_iff_eq, Bool.or_eq_true,
      Bool.and_eq_true, List.contains_iff_mem, ← Fin.ext_iff, exists_eq_right]
    exact or_comm
  rw [← marked]
  exact getElem_mapIndexed _ s.table t.val t.isLt

theorem State.isWrite_giveMarks (s : State) (g : GlobalBlock) (t : Tag) : (s.giveMarks g).isWrite t = s.isWrite t := by
  unfold State.isWrite
  rw [s.request_giveMarks]
  cases s.waitsForErase g t <;> cases s.request t <;> rfl

theorem State.isForBlock_giveMarks (s : State) (g k : GlobalBlock) (t : Tag) :
    (s.giveMarks g).isForBlock k t = s.isForBlock k t := by
  unfold State.isForBlock
  rw [s.request_giveMarks]
  cases s.waitsForErase g t <;> cases s.request t <;> rfl

theorem State.writeWaitsForBlock_giveMarks (s : State) (g k : GlobalBlock) :
    (s.giveMarks g).writeWaitsForBlock k = s.writeWaitsForBlock k := by
  unfold State.writeWaitsForBlock
  simp only [State.isWrite_giveMarks, State.isForBlock_giveMarks]
  rfl

/-- The marks depend on the requests, on the wait list, and on the lines and held lists of the buffers. -/
theorem State.waitsForErase_congr {s u : State} (g : GlobalBlock) (t : Tag) (table : u.table = s.table)
    (waits : u.waitList = s.waitList)
    (buffers : ∀ i, (u.buffer i).line? = (s.buffer i).line? ∧ (u.buffer i).held = (s.buffer i).held) :
    u.waitsForErase g t = s.waitsForErase g t := by
  have held : u.heldOfBlock g = s.heldOfBlock g := by
    unfold State.heldOfBlock Buffer.inBlock
    simp only [buffers]
  unfold State.waitsForErase State.isForBlock State.request
  rw [held, waits, table]

/-! ## Entries ahead of the ERASE entry -/

/-- The buffer is FILLING with a line of the block. -/
def Buffer.fillsBlock (b : Buffer) (d : DieIx) (k : BlockIx) : Prop :=
  ∃ l n body p due, b = .filling l n body p due ∧ l.die = d ∧ l.block = k

/-- The FILLING buffers of an ERASE_PENDING block are posted ahead of its ERASE entry, in the order given (R15). -/
theorem State.dies_foldl_post_ahead {s : State} {d : DieIx} {k : BlockIx} {tk : Ticket} {is : List BufIx}
    {ahead : List WorkEntry} (nodup : is.Nodup) (filling : ∀ i ∈ is, (s.buffer i).fillsBlock d k)
    (pending : (s.block (globalBlock d k)).erase = .pending) (queue : (s.die d).workQueue = ahead ++ [.erase k tk])
    (first : ∀ tk', WorkEntry.erase k tk' ∉ ahead) : (is.foldl State.post s).dies =
      s.dies.set d { s.die d with workQueue := ahead ++ (programEntries is ++ [.erase k tk]) } := by
  induction is generalizing s ahead with
  | nil =>
    have self : s.dies.set d (s.die d) = s.dies := Vector.set_getElem_self _
    rw [programEntries, List.map_nil, List.nil_append, ← queue]
    exact self.symm
  | cons i is ih =>
    obtain ⟨hnew, nodup⟩ := List.nodup_cons.mp nodup
    obtain ⟨l, n, body, p, due, hb, rfl, rfl⟩ := filling i List.mem_cons_self
    have posted := State.post_ahead hb pending queue first
    have same {j : BufIx} (hj : j ∈ is) : (s.post i).buffer j = s.buffer j := by
      have hne : i ≠ j := fun e => hnew (e ▸ hj)
      rw [State.buffer_post, if_neg hne]
    have dies : (s.post i).dies = s.dies.set l.die { s.die l.die with
        workQueue := ahead ++ .program i :: .erase l.block tk :: [] } := by rw [posted]
    have rest := ih (s := s.post i) (ahead := ahead ++ [.program i]) nodup
      (fun j hj => by rw [same hj]; exact filling j (List.mem_cons_of_mem _ hj))
      (by rw [State.block_post]; exact pending)
      (by rw [State.die_of_dies dies]; simp)
      (fun tk' k' => first tk' (by simpa using k'))
    rw [State.die_of_dies dies, dies] at rest
    rw [List.foldl_cons, rest]
    simp [programEntries]

/-! ## The erase admitted -/

/-- The state in which the block is ERASE_PENDING and its entry is queued, nothing posted yet (R112). -/
def State.eraseQueued (s : State) (g : GlobalBlock) (tk : Ticket) : State :=
  { s with
    ticketCounter := tk + 1
    blocks := s.blocks.set g { s.block g with erase := .pending }
    dies := s.dies.set (dieOf g) { s.die (dieOf g) with
      workQueue := (s.die (dieOf g)).workQueue ++ [.erase (blockOf g) tk] } }

theorem State.admitErase_eq (s : State) (g : GlobalBlock) (tk : Ticket) :
    s.admitErase g tk = ((s.eraseQueued g tk).postAll fun b => b.inBlock g).giveMarks g := rfl

theorem State.waitsForErase_postAll (s : State) (g : GlobalBlock) (tk : Ticket) (t : Tag) :
    ((s.eraseQueued g tk).postAll fun b => b.inBlock g).waitsForErase g t = s.waitsForErase g t := by
  have step := (s.eraseQueued g tk).arrayStep_postAll fun b => b.inBlock g
  exact State.waitsForErase_congr g t (by rw [step]; rfl) (by rw [step]; rfl)
    fun i => (s.eraseQueued g tk).buffer_postAll (fun b => b.inBlock g) i

/-- The request of an admitted erase's block is marked where it waits (R40, R112). -/
theorem State.request_admitErase (s : State) (g : GlobalBlock) (tk : Ticket) (t : Tag) : (s.admitErase g tk).request t =
    if s.waitsForErase g t then (s.request t).map fun r => { r with mark := true } else s.request t := by
  have step := (s.eraseQueued g tk).arrayStep_postAll fun b => b.inBlock g
  have request : ((s.eraseQueued g tk).postAll fun b => b.inBlock g).request t = s.request t := by
    rw [step]
    rfl
  rw [State.admitErase_eq, State.request_giveMarks, State.waitsForErase_postAll, request]

/-- An admitted erase changes the ticket counter, the marks, and what the array side touches (R112). -/
theorem State.admitErase_settled (s : State) (g : GlobalBlock) (tk : Ticket) :
    let u := (s.admitErase g tk).settle
    u = { s with
      ticketCounter := tk + 1, table := (s.admitErase g tk).table, buffers := u.buffers, blocks := u.blocks
      dies := u.dies, out := u.out } := by
  obtain ⟨p, hp⟩ : ∃ p, p = (s.eraseQueued g tk).postAll fun b => b.inBlock g := ⟨_, rfl⟩
  obtain ⟨v, hv⟩ : ∃ v, v = s.admitErase g tk := ⟨_, rfl⟩
  have posts : (s.eraseQueued g tk).ArrayStep p := by
    rw [hp]
    exact State.arrayStep_postAll _ _
  have marks : v = { p with table := v.table } := by
    rw [hv, State.admitErase_eq, ← hp]
    rfl
  have settles := v.arrayStep_settle
  rw [← hv]
  intro u
  unfold State.ArrayStep at posts settles
  refine settles.trans ?_
  obtain ⟨table, ht⟩ : ∃ table, table = v.table := ⟨_, rfl⟩
  rw [← ht] at marks ⊢
  obtain ⟨w, hw⟩ : ∃ w, w = v.settle := ⟨_, rfl⟩
  rw [show u = v.settle from rfl, ← hw, marks, posts]
  rfl

end Sys2Proof.Machine
end

section
/-! ERASE admitted: the statement, by what its die does (sections 4.6 and 6.2). -/

namespace Sys2Proof.Machine

open Sys2Proof

/-- The buffers of the block that are FILLING, as the statement lists them. -/
theorem State.fillsBlock_of_order {s : State} {g : GlobalBlock} {is : List BufIx}
    (order : s.fillingInOrder (fun b => b.inBlock g) is) :
    ∀ i ∈ is, (s.buffer i).fillsBlock (dieOf g) (blockOf g) := fun i hi => by
  obtain ⟨own, here⟩ := (order.1 i).1 hi
  obtain ⟨l, n, body, p, due, hb⟩ := (s.buffer i).isFilling_iff.1 own
  obtain ⟨k, hk, hg⟩ := Buffer.inBlock_iff.1 here
  rw [hb] at hk
  cases hk
  obtain ⟨hd, hbl⟩ := (globalBlock_eq_iff _ _ _).1 hg
  exact ⟨l, n, body, p, due, hb, hd.symm, hbl.symm⟩

/-- The state before the die controllers act, with the FILLING buffers of the block in order. -/
theorem State.admitErase_ordered {s : State} {g : GlobalBlock} {tk : Ticket} {is : List BufIx}
    (order : s.fillingInOrder (fun b => b.inBlock g) is)
    (first : ∀ tk', WorkEntry.erase (blockOf g) tk' ∉ (s.die (dieOf g)).workQueue) :
    let v := s.admitErase g tk
    (∀ j, v.buffer j = if j ∈ is then (s.buffer j).asPosted else s.buffer j) ∧
      (is = [] → v.buffers = s.buffers) ∧
      v.blocks = s.blocks.set g { s.block g with erase := .pending } ∧
      v.dies = s.dies.set (dieOf g) { s.die (dieOf g) with
        workQueue := (s.die (dieOf g)).workQueue ++ (programEntries is ++ [.erase (blockOf g) tk]) } ∧
      v.out = s.out := by
  intro v
  have posted : ((s.eraseQueued g tk).postAll fun b => b.inBlock g) = is.foldl State.post (s.eraseQueued g tk) :=
    State.postAll_eq (s := s.eraseQueued g tk) order
  have shape : v = (is.foldl State.post (s.eraseQueued g tk)).giveMarks g := by
    rw [← posted]
    rfl
  have die := State.die_of_dies (s := s) (u := s.eraseQueued g tk) (d := dieOf g) rfl
  have own : globalBlock (dieOf g) (blockOf g) = g := (globalBlock_eq_iff _ _ _).2 ⟨rfl, rfl⟩
  have pending : ((s.eraseQueued g tk).block (globalBlock (dieOf g) (blockOf g))).erase = .pending := by
    rw [own]
    have set := s.block_setBlock g g { s.block g with erase := .pending }
    rw [if_pos rfl] at set
    exact congrArg BlockRecord.erase set
  have dies := State.dies_foldl_post_ahead (s := s.eraseQueued g tk) (State.fillingInOrder_nodup order)
    (State.fillsBlock_of_order order) pending (by rw [die]) first
  rw [die] at dies
  rw [shape]
  refine ⟨fun j => State.buffer_foldl_post is _ j, fun none => ?_, State.blocks_foldl_post is _, dies.trans ?_,
    State.out_foldl_post is _⟩
  · rw [none]
    rfl
  · simp only [State.eraseQueued, Vector.set_set]

/-! ## What the die starts -/

/-- The erase may start with nothing of its block LOADING or FILLING and no write for it waiting (R81). -/
theorem State.eraseHeldBack_eq_false {s : State} {g : GlobalBlock}
    (buffers : ∀ i, (s.buffer i).inBlock g = true → (s.buffer i).isLoading = false ∧ (s.buffer i).isFilling = false)
    (waits : s.writeWaitsForBlock g = false) : s.eraseHeldBack g = false := by
  have nobody : (bufferIndices.any fun i =>
      (s.buffer i).inBlock g && ((s.buffer i).isLoading || (s.buffer i).isFilling)) = false := by
    rw [List.any_eq_false]
    intro i _ k
    obtain ⟨here, busy⟩ := Bool.and_eq_true_iff.1 k
    rw [(buffers i here).1, (buffers i here).2] at busy
    cases busy
  rw [State.eraseHeldBack, nobody, waits]
  rfl

/-- The turn of the die controllers starts the erase at the head of a READY die's queue (R81, R85, R92, R117). -/
theorem State.settle_erases {s : State} {d : DieIx} {g : GlobalBlock} {k : BlockIx} {tk : Ticket} {rest : List WorkEntry}
    (others : s.othersAtRest d) (own : globalBlock d k = g) (ready : (s.die d).state = .ready)
    (reads : (s.die d).readQueue = []) (work : (s.die d).workQueue = .erase k tk :: rest)
    (guard : s.settings.guardInterval ≠ 0) (free : s.eraseHeldBack g = false) :
    s.settle = { s with
      blocks := s.blocks.set g { s.block g with erase := .erasing, clean := false }
      dies := s.dies.set d { s.die d with
        state := .erasing ⟨k, tk⟩ (s.now + 4000000) (some (s.now + s.settings.guardInterval)), workQueue := rest }
      out := { s.out with link := s.out.link ++ [(d, .eraseBlock k)] } } := by
  subst own
  rw [State.settle_of_othersAtRest others, State.arbitrate_work ready reads, State.serveWork, work]
  simp only [free, Bool.false_eq_true, if_false]
  rw [State.startErase, State.guardPoint_of_ne_zero guard]
  rfl

/-- The answer of an ERASE whose checks pass (R111). -/
theorem State.erase_accepted {s : State} {block : BitVec 16} {g : GlobalBlock} (hg : block.toNat = g.val)
    (fits : g.val < s.fittedDies * 256) (online : (s.die (dieOf g)).isOffline = false)
    (permitted : (s.regionOf g).map RegionEntry.erasePermitted = some true) (unlocked : (s.block g).lock = .opened)
    (unerased : (s.block g).erase = .none) (room : s.ticketsInUse.length < 8) :
    State.erase block s = ((s.admitErase g s.nextTicket).settle, acceptedWith s.nextTicket) := by
  have notFull : ¬ s.ticketSpaceFull = true := by
    rw [State.ticketSpaceFull_iff]
    exact Nat.not_le.2 room
  have passes : s.eraseRefusal g = none := by
    unfold State.eraseRefusal
    rw [if_neg (by rw [online]; exact Bool.false_ne_true), if_neg (by rw [eraseNotPermitted_iff]; exact not_not.2 permitted),
      if_neg (by rw [unlocked]; nofun), if_neg (by rw [unerased]; exact not_not.2 rfl), if_neg notFull]
  rw [State.erase, State.fittedBlock_of_toNat_eq hg fits]
  simp only [passes]

/-- The block record that the admission wrote. -/
theorem State.block_of_blocks {s u : State} {g : GlobalBlock} {b : BlockRecord} (blocks : u.blocks = s.blocks.set g b) :
    u.block g = b := by
  simp [State.block, blocks]

/-- The turn of the die controllers starts the program at the head of a READY die's queue (R80, R85, R92). -/
theorem State.settle_programs {s : State} {d : DieIx} {g : GlobalBlock} {i : BufIx} {l : LineAddr} {n : Nat}
    {body : LineBody} {rest : List WorkEntry} (others : s.othersAtRest d) (hb : s.buffer i = .posted l n body none)
    (line : l.global = g) (ready : (s.die d).state = .ready) (reads : (s.die d).readQueue = [])
    (work : (s.die d).workQueue = .program i :: rest) (guard : s.settings.guardInterval ≠ 0) :
    s.settle = { s with
      buffers := s.buffers.set i (.programming l n body 0)
      blocks := s.blocks.set g { s.block g with clean := false }
      dies := s.dies.set d { s.die d with
        state := .programming ⟨l.block, l.line, i⟩ (s.now + 3000) (some (s.now + s.settings.guardInterval))
        workQueue := rest }
      out := { s.out with
        link := s.out.link ++ [(d, .programLine l.block l.line body.image (wordMask body.written))] } } := by
  subst line
  rw [State.settle_of_othersAtRest others, State.arbitrate_starts hb ready reads work guard]

/-- Settles O50: the FILLING buffers of the block are queued ahead of the erase, and the head of that queue is what an
idle die starts. -/
theorem eraseAdmitted : Obligations.EraseAdmitted := by
  unfold Obligations.EraseAdmitted
  intro block g s d x waits h running hg fits online permitted unlocked unerased room
  obtain ⟨tk, htk⟩ : ∃ tk, tk = s.nextTicket := ⟨_, rfl⟩
  obtain ⟨v, hv⟩ : ∃ v, v = s.quiet.admitErase g tk := ⟨_, rfl⟩
  obtain ⟨w, hw⟩ : ∃ w, w = v.settle := ⟨_, rfl⟩
  have action : actionOf (.erase block) s.quiet = (w, acceptedWith tk) := by
    refine (State.unlessBusy_running (s := s.quiet) running).trans ?_
    rw [hw, hv, htk]
    exact State.erase_accepted (s := s.quiet) hg fits online permitted unlocked unerased room
  have runs : exec (Instr.erase block) s = .next (w.conclude (.erase block) (acceptedWith tk)) :=
    (exec_of_completing (c := .erase block) h nofun).trans (by rw [action])
  have shape := s.quiet.admitErase_settled g tk
  simp only [← hv, ← hw] at shape
  have table : w.table = v.table := by rw [hw, v.arrayStep_settle]
  have fresh : tk ∉ s.ticketsInUse := by
    rw [htk]
    exact s.nextTicket_not_mem room
  have counted : s.ticketCounter ∉ s.ticketsInUse → tk = s.ticketCounter := by
    rw [htk]
    exact s.nextTicket_of_free
  refine ⟨tk, w.conclude (.erase block) (acceptedWith tk), fresh, counted, runs, ?_, fun t => ?_,
    fun is order others first => ?_⟩
  · rw [shape]
    rfl
  · have request : (w.conclude (.erase block) (acceptedWith tk)).request t = v.request t :=
      congrArg (fun table => table[t]) table
    rw [request, hv]
    exact s.quiet.request_admitErase g tk t
  · obtain ⟨buffer, unposted, blocks, dies, out⟩ := State.admitErase_ordered (s := s.quiet) (tk := tk) order first
    rw [← hv] at buffer unposted blocks dies out
    have die := State.die_of_dies dies
    have now : v.now = s.now ∧ v.settings = s.settings := by
      rw [hv, State.admitErase_eq, State.arrayStep_postAll]
      exact ⟨rfl, rfl⟩
    have othersRest : v.othersAtRest d := State.othersAtRest_of_dies others fun e he => by
      have set := s.die_setDie d e (v.die d)
      rw [if_neg (Ne.symm he)] at set
      rw [← set, die, State.die, dies]
      rfl
    refine ⟨fun busy atRest => ?_, fun ready reads work guard => ⟨fun i rest l n body due his hb => ?_,
      fun none loading idle => ?_⟩⟩
    · have rests : w = v := hw.trans <| State.settle_of_atRest
        (State.atRest_of_dies (s := s) others dies (Die.atRest_of_work (x := x) atRest fun ready => absurd ready busy))
      rw [rests]
      exact ⟨blocks, dies, buffer, out⟩
    · have member : i ∈ is := his ▸ List.mem_cons_self
      have line : l.global = g := by
        obtain ⟨k, hk, hg⟩ := Buffer.inBlock_iff.1 ((order.1 i).1 member).2
        rw [hb] at hk
        cases hk
        exact hg
      have posted : v.buffer i = .posted l n body none := by
        rw [buffer, if_pos member]
        exact congrArg Buffer.asPosted hb
      have starts := State.settle_programs othersRest posted line (rest := programEntries rest ++ [.erase (blockOf g) tk])
        (by rw [die]; exact ready) (by rw [die]; exact reads)
        (by rw [die, show (s.quiet.die (dieOf g)).workQueue = [] from work, his]; rfl) (by rw [now.2]; exact guard)
      rw [← hw, State.block_of_blocks blocks, die, blocks, dies, now.1, now.2, out, Vector.set_set, Vector.set_set]
        at starts
      have bufs (j : BufIx) : w.buffer j =
          if j = i then .programming l n body 0 else if j ∈ rest then (s.buffer j).asPosted else s.buffer j := by
        have set := v.buffer_setBuffer i j (.programming l n body 0)
        rw [buffer, his] at set
        refine Eq.trans (by rw [starts]; rfl) (set.trans ?_)
        by_cases hj : i = j
        · rw [if_pos hj, if_pos hj.symm]
        · simp [hj, Ne.symm hj]
      refine ⟨by rw [starts]; rfl, by rw [starts]; rfl, bufs, by rw [starts]; rfl⟩
    · have free : v.eraseHeldBack g = false := by
        refine State.eraseHeldBack_eq_false (fun i here => ?_) ?_
        · rw [State.buffer, unposted none] at here ⊢
          refine ⟨loading i here, Bool.eq_false_iff.2 fun k => ?_⟩
          have listed := (order.1 i).2 ⟨k, here⟩
          rw [none] at listed
          cases listed
        · rw [hv, State.admitErase_eq, State.writeWaitsForBlock_giveMarks, State.arrayStep_postAll]
          exact idle
      have starts := State.settle_erases (rest := x.workQueue) othersRest ((globalBlock_eq_iff _ _ _).2 ⟨rfl, rfl⟩) (by rw [die]; exact ready) (by rw [die]; exact reads)
          (by rw [die, show (s.quiet.die (dieOf g)).workQueue = [] from work, work, none]; rfl) (by rw [now.2]; exact guard) free
      rw [← hw, State.block_of_blocks blocks, die, blocks, dies, now.1, now.2, out,
        Vector.set_set, Vector.set_set] at starts
      exact ⟨by rw [starts]; rfl, by rw [starts]; rfl, by rw [starts]; exact unposted none, by rw [starts]; rfl⟩

end Sys2Proof.Machine
end
